-- ==== Sys2Proof/Word.lean ====
section
/-! DEFINITION. The finite words of the AOBV block: a bus word, a bus address, a host operation word and an
output sample. All datapath arithmetic is on unbounded integers (R10) and stands in Machine/Ops.lean. -/

namespace Sys2Proof

/-- A 32-bit bus word, and the 32-bit two's complement word that holds a sample (R12, R100). -/
abbrev Word := BitVec 32

/-- A 16-bit byte address of the register space (R100). -/
abbrev Addr := BitVec 16

/-- A host operation word, KIND, ADDR and DATA in 50 bits (R130). -/
abbrev How := BitVec 50

/-- A 24-bit two's complement output sample (R195). -/
abbrev OutSample := BitVec 24

end Sys2Proof
end

