-- ==== Sys2Proof/Config.lean ====
section
/-! DEFINITION. The implementation parameters of AOBV revision 1 (R7). The five ROMs, which R7 also lists as
parameters, are given by their formulas in Machine/Rom.lean. No parameter is left free: the spec fixes every one. -/

namespace Sys2Proof.Config

/-- NV, the number of voice slots (R7, D3). -/
abbrev NV : Nat := 16

/-- NP, the number of partial slots of a voice (R7, D4). -/
abbrev NP : Nat := 64

/-- The number of mod-matrix depths, three destinations of four sources each (R66). -/
abbrev ND : Nat := 12

/-- The value the ID register reads (R31). -/
def idValue : Word := 0x414F4201#32

/-- ENV_LEN_MAX, the longest envelope stage in frames, 2^24 - 1 (R7). -/
def envLenMax : Nat := 16777215

/-- CUT_MOD_OCT as cutoff-index steps, four octaves of 96 (R7, R344). -/
def cutModSteps : Int := 384

/-- The highest cutoff index, CUT_N - 1 (R7, R270). -/
def cutTop : Int := 1023

end Sys2Proof.Config
end

