-- ==== Sys2Proof/Machine/State.lean ====
section
/-! DEFINITION. The state of the AOBV block as plain data (10_state.md), the reasons a step can stop, and the
state right after hardware reset (R390, R391). Every register is held at the width its rule gives, so a
reserved bit has no storage and reads as zero (R30). -/

namespace Sys2Proof.Machine

open Sys2Proof.Config

/-- The ADSR stages (R240). -/
inductive Stage where
  | idle | delay | attack | decay | sustain | release
deriving DecidableEq, Repr

/-- ENV_MODE.CURVE (R48). -/
inductive Curve where
  | exponential | linear
deriving DecidableEq, Repr

/-- VCA_MODE.RESP (R49). -/
inductive Response where
  | linear | squared
deriving DecidableEq, Repr

/-- NOISE_SEL.COLOR (R53). Code 3 is never stored. -/
inductive NoiseColor where
  | white | pink | mauve
deriving DecidableEq, Repr

/-- One biquad section: the last two inputs, the last two outputs and the error-feedback residue (R81). -/
structure Section where
  x1 : Word
  x2 : Word
  y1 : Word
  y2 : Word
  ef : BitVec 28
deriving DecidableEq, Repr

/-- The pink-noise filter taps PB0 to PB6, signed (R83). -/
structure PinkTaps where
  pb0 : Word
  pb1 : Word
  pb2 : Word
  pb3 : Word
  pb4 : Word
  pb5 : Word
  pb6 : Word
deriving DecidableEq, Repr

/-- The filter, punch, pink and mauve state of a voice: what VOICE_START clears (R81, R82, R83, R392). -/
structure SignalPath where
  /-- Section 1 of the filter (R81). -/
  sec1 : Section
  /-- Section 2 of the filter (R81). -/
  sec2 : Section
  /-- HX1, the last input of the punch high-pass (R82). -/
  hx1 : Word
  /-- HY1, the last output of the punch high-pass (R82). -/
  hy1 : Word
  /-- PB0 to PB6 (R83). -/
  pink : PinkTaps
  /-- MS1, the first mauve integrator, signed (R83). -/
  ms1 : Word
  /-- MS2, the second mauve integrator, signed (R83). -/
  ms2 : Word
deriving DecidableEq, Repr

/-- The envelope generator of a voice (R80, R240). -/
structure Adsr where
  /-- STAGE (R240). -/
  stage : Stage
  /-- E, the ADSR level, Q16 (R80); VENV reads it (R75). -/
  e : BitVec 17
  /-- CNT, the frames elapsed in the stage (R80). -/
  cnt : BitVec 24
  /-- SL, the level at the start of the stage, Q16 (R80). -/
  sl : BitVec 17
deriving DecidableEq, Repr

/-- One voice: its registers (R67 to R79) and its internal state (R80 to R83). -/
structure Voice where
  /-- ACTIVE (R68, R80). -/
  active : Bool
  /-- The envelope generator (R80). -/
  adsr : Adsr
  /-- VLEVEL, the decay level, Q1.31 (R69). -/
  vlevel : Word
  /-- VDECAY, the decay rate, Q1.31 (R70). -/
  vdecay : Word
  /-- VPAN (R72). -/
  vpan : BitVec 17
  /-- VVEL, signed Q16 (R73). -/
  vvel : Word
  /-- VPRES, signed Q16 (R74). -/
  vpres : Word
  /-- VAGE (R71). -/
  vage : Word
  /-- VNSTATE (R76). -/
  vnstate : Word
  /-- The filter, punch and noise-filter state (R81 to R83). -/
  path : SignalPath
  /-- PINC[0..63], phase increments (R77). -/
  pinc : Vector Word NP
  /-- PAMP[0..63], Q1.15 amplitudes (R78). -/
  pamp : Vector (BitVec 16) NP
  /-- PHASE[0..63] (R79). -/
  phase : Vector Word NP
deriving DecidableEq, Repr

/-- The global parameter registers, which only a WR changes (R33, R35 to R55, R57, R66). -/
structure Params where
  /-- CTRL.EN (R33). -/
  en : Bool
  /-- VCAP (R35). -/
  vcap : BitVec 5
  /-- PCAP (R36). -/
  pcap : BitVec 7
  /-- MASTER_GAIN, Q16 (R37). -/
  masterGain : BitVec 18
  /-- VTHRESH, Q1.31 (R38). -/
  vthresh : Word
  /-- CUT_MIN (R39). -/
  cutMin : BitVec 10
  /-- CUTOFF (R40). -/
  cutoff : BitVec 10
  /-- RESO, Q16 (R41). -/
  reso : BitVec 17
  /-- ENV_DELAY, frames (R42). -/
  envDelay : BitVec 24
  /-- ENV_ATTACK, frames (R43). -/
  envAttack : BitVec 24
  /-- ENV_DECAY, frames (R44). -/
  envDecay : BitVec 24
  /-- ENV_SUSTAIN, Q16 (R45). -/
  envSustain : BitVec 17
  /-- ENV_RELEASE, frames (R46). -/
  envRelease : BitVec 24
  /-- ENV_OVERSHOOT, Q16 (R47). -/
  envOvershoot : BitVec 17
  /-- ENV_MODE.CURVE (R48). -/
  envMode : Curve
  /-- VCA_MODE.RESP (R49). -/
  vcaMode : Response
  /-- PUNCH_MIX, Q16 (R50). -/
  punchMix : BitVec 17
  /-- PUNCH_DRIVE, Q16 (R51). -/
  punchDrive : BitVec 21
  /-- PUNCH_HPC, Q16 (R52). -/
  punchHpc : BitVec 16
  /-- NOISE_SEL.COLOR (R53). -/
  noiseSel : NoiseColor
  /-- NOISE_LEVEL, Q16 (R54). -/
  noiseLevel : BitVec 17
  /-- LFO_INC (R55). -/
  lfoInc : Word
  /-- MOVE, Q16 (R57). -/
  move : BitVec 17
  /-- MOD_DEPTH[d][s] at index 4*d + s, signed Q16 (R66). -/
  modDepth : Vector Word ND
deriving DecidableEq, Repr

/-- The telemetry accumulators: what TELEM_CLEAR clears (R62 to R65, R84, R166). -/
structure Telem where
  /-- PEAK_L (R62). -/
  peakL : BitVec 24
  /-- PEAK_R (R62). -/
  peakR : BitVec 24
  /-- ENERGY_L (R63, R84). -/
  energyL : BitVec 64
  /-- ENERGY_R (R64, R84). -/
  energyR : BitVec 64
  /-- ESHADOW_L, the latch ENERGY_L_HI reads (R63, R84). -/
  eshadowL : Word
  /-- ESHADOW_R, the latch ENERGY_R_HI reads (R64, R84). -/
  eshadowR : Word
  /-- ENERGY_COUNT (R65). -/
  energyCount : Word
deriving DecidableEq, Repr

/-- The machine. The last three fields are the model's own, for the two agents of R17 and the observations of
R18: what the environment will do next and what it has seen so far. -/
structure State where
  /-- STATUS.CMDERR (R34). -/
  cmdErr : Bool
  /-- STATUS.BUSERR (R34). -/
  busErr : Bool
  /-- The global parameter registers. -/
  params : Params
  /-- LFO_PHASE (R56). -/
  lfoPhase : Word
  /-- FRAME_COUNT (R58). -/
  frameCount : Word
  /-- OUT_L (R61). -/
  outL : OutSample
  /-- OUT_R (R61). -/
  outR : OutSample
  /-- The telemetry accumulators. -/
  telem : Telem
  /-- The NV voices. -/
  voices : Vector Voice NV
  /-- MODEL'S OWN: the operation words still to come from the host and the sample clock, merged in the order
  they take effect (R113, R130), the next one first. Log entry 1. -/
  stream : List How
  /-- MODEL'S OWN: the values returned by the RDs so far, oldest first (R18). Log entry 2. -/
  reads : List Word
  /-- MODEL'S OWN: the frames emitted so far, left and right, oldest first (R18, R195). Log entry 2. -/
  frames : List (OutSample × OutSample)
deriving DecidableEq, Repr

/-- Why a step faults. There is no constructor: the block raises no exception (R360), and no unreachable case
that the spec lets a model fault on (R15, 93_implementation_defined.md items 9 to 12) needs one here, since the
field types exclude it or the rules still give it an effect. Nothing raises a fault, which is safe. -/
inductive Fault where
deriving DecidableEq, Repr

/-- Why a step refuses. -/
inductive Refusal where
  /-- Raised by the dispatch for an instruction with no meaning yet; no arm uses it. Safe: the run stops. -/
  | notModelled (mnemonic : String)
  /-- Raised by the step on a word of KIND 11, which encodes no operation and which a model refuses (R131).
  Safe: the run stops where the hardware cannot be. -/
  | reservedKind
deriving DecidableEq, Repr

/-- `seed(v)`, the reset value of VNSTATE (R76, R326). -/
def seed (v : Nat) : Word := BitVec.ofNat 32 (0x2545F491 + v * 0x9E3779B9)

/-- A cleared biquad section (R81). -/
def Section.reset : Section := { x1 := 0, x2 := 0, y1 := 0, y2 := 0, ef := 0 }

/-- Cleared pink taps (R83). -/
def PinkTaps.reset : PinkTaps := { pb0 := 0, pb1 := 0, pb2 := 0, pb3 := 0, pb4 := 0, pb5 := 0, pb6 := 0 }

/-- The cleared filter, punch and noise-filter state (R391). -/
def SignalPath.reset : SignalPath :=
  { sec1 := Section.reset, sec2 := Section.reset, hx1 := 0, hy1 := 0, pink := PinkTaps.reset, ms1 := 0, ms2 := 0 }

/-- The idle envelope generator (R391). -/
def Adsr.reset : Adsr := { stage := .idle, e := 0, cnt := 0, sl := 0 }

/-- Voice `v` after hardware reset (R390, R391). -/
def Voice.reset (v : Nat) : Voice :=
  { active := false
    adsr := Adsr.reset
    vlevel := 0
    vdecay := 0
    vpan := 32768
    vvel := 0
    vpres := 0
    vage := 0
    vnstate := seed v
    path := SignalPath.reset
    pinc := Vector.replicate NP 0
    pamp := Vector.replicate NP 0
    phase := Vector.replicate NP 0 }

/-- The parameter registers after hardware reset (R390). -/
def Params.reset : Params :=
  { en := false
    vcap := 16
    pcap := 64
    masterGain := 65536
    vthresh := 214748
    cutMin := 56
    cutoff := 1023
    reso := 0
    envDelay := 0
    envAttack := 480
    envDecay := 4800
    envSustain := 45875
    envRelease := 9600
    envOvershoot := 72090
    envMode := .exponential
    vcaMode := .linear
    punchMix := 0
    punchDrive := 262144
    punchHpc := 57495
    noiseSel := .white
    noiseLevel := 0
    lfoInc := 0
    move := 65536
    modDepth := Vector.replicate ND 0 }

/-- Cleared telemetry (R166, R390, R391). -/
def Telem.reset : Telem :=
  { peakL := 0, peakR := 0, energyL := 0, energyR := 0, eshadowL := 0, eshadowR := 0, energyCount := 0 }

/-- The sixteen voices after hardware reset (R390, R391). -/
def voicesReset : Vector Voice NV :=
  #v[Voice.reset 0, Voice.reset 1, Voice.reset 2, Voice.reset 3, Voice.reset 4, Voice.reset 5, Voice.reset 6,
    Voice.reset 7, Voice.reset 8, Voice.reset 9, Voice.reset 10, Voice.reset 11, Voice.reset 12, Voice.reset 13,
    Voice.reset 14, Voice.reset 15]

/-- The machine right after hardware reset (R390, R391): no operation is waiting, and nothing has been read or
emitted. -/
def State.reset : State :=
  { cmdErr := false
    busErr := false
    params := Params.reset
    lfoPhase := 0
    frameCount := 0
    outL := 0
    outR := 0
    telem := Telem.reset
    voices := voicesReset
    stream := []
    reads := []
    frames := [] }

end Sys2Proof.Machine
end

