-- ==== Sys2Proof/Machine/Ops.lean ====
section
/-! DEFINITION. The integer operators of the datapath (R9 to R11) and the named updates of the state that the
meanings share. There is no exception to take and none to return from (R360, R365, R366): a rejected operation
sets one STATUS bit, which is Machine/Flags.lean. There is no byte memory: the register space is the registers
themselves (R100, R101), read and written in Machine/Registers.lean. -/

namespace Sys2Proof.Machine

open Sys2Proof.Config

/-- `floor(x / 2^k)`, the arithmetic shift right (R10). -/
def asr (x : Int) (k : Nat) : Int := x >>> k

/-- `clamp(x, lo, hi)` (R10). -/
def clamp (x lo hi : Int) : Int := min (max x lo) hi

/-- `sat32(x)` (R10). -/
def sat32 (x : Int) : Int := clamp x (-2147483648) 2147483647

/-- `gmul(x, g)`, the saturated product with a Q16 gain (R11). -/
def gmul (x g : Int) : Int := sat32 (asr (x * g) 16)

/-- `q16(x, c)`, the product with a Q16 constant, unsaturated (R11). -/
def q16 (x c : Int) : Int := asr (x * c) 16

/-- The 32-bit two's complement word of a sample, `u32(x)` (R9, R12). -/
def ofSample (x : Int) : Word := BitVec.ofInt 32 x

/-- An unsigned register field as an integer. -/
def ofField {w : Nat} (b : BitVec w) : Int := (b.toNat : Int)

/-- Add one, held at 2^32 - 1 (R196, R201). -/
def satInc (w : Word) : Word := BitVec.ofNat 32 (min (w.toNat + 1) 4294967295)

/-- Replace voice `v` by what `f` makes of it. -/
def State.updVoice (s : State) (v : Fin NV) (f : Voice → Voice) : State :=
  { s with voices := s.voices.set v (f s.voices[v]) }

/-- Replace all voices. -/
def State.setVoices (s : State) (vs : Vector Voice NV) : State := { s with voices := vs }

/-- Replace the parameter registers. -/
def State.setParams (s : State) (p : Params) : State := { s with params := p }

/-- Replace the telemetry accumulators. -/
def State.setTelem (s : State) (t : Telem) : State := { s with telem := t }

/-- Record the value an RD returns (R18, R160). -/
def State.returnWord (s : State) (w : Word) : State := { s with reads := s.reads ++ [w] }

/-- `EmitFrame(l, r)`: append the frame to the output stream and load OUT_L and OUT_R (R195). -/
def State.emitFrame (s : State) (l r : OutSample) : State :=
  { s with frames := s.frames ++ [(l, r)], outL := l, outR := r }

/-- The end of an enabled frame: FRAME_COUNT and LFO_PHASE advance, both modulo 2^32 (R197). -/
def State.advanceClock (s : State) : State :=
  { s with frameCount := s.frameCount + 1, lfoPhase := s.lfoPhase + s.params.lfoInc }

/-- Hardware reset: every register and internal value returns to its reset value, while the environment's own
record of what is still to come, was read and was emitted stays (R390, R391, R393). No host operation causes
it. -/
def State.hardwareReset (s : State) : State :=
  { State.reset with stream := s.stream, reads := s.reads, frames := s.frames }

end Sys2Proof.Machine
end

