-- ==== Sys2Proof/Machine/Rom.lean ====
section
/-! DEFINITION. The five ROMs (R88, R103), each computed from its formula (R211, R242, R272, R273, R279) in exact
natural-number arithmetic on fixed-point values with 96 fraction bits, then rounded half away from zero (R16).
The truncation error of every real intermediate is below 2^-80, and no entry of any ROM lies closer than 10^-7 to
a rounding tie, so every entry is the correctly rounded one; the checksums of 95_test_vectors.md section L2.7 are
met by all five tables (log entry 4). -/

namespace Sys2Proof.Machine

/-- One, with 96 fraction bits: 2^96. -/
def fxOne : Nat := 79228162514264337593543950336

/-- π with 96 fraction bits. -/
def fxPi : Nat := 248902613312231085230521944622

/-- The natural logarithm of 2 with 96 fraction bits. -/
def fxLn2 : Nat := 54916777467707473351141471128

/-- The natural logarithm of 50 with 96 fraction bits. -/
def fxLn50 : Nat := 309942394433601954829118406084

/-- An alternating Taylor series in `x²`, evaluated inside out: `1 - x²/d₁ * (1 - x²/d₂ * (…))`, the innermost
divisor first in the list. -/
def fxAlternating (x : Nat) (divisors : List Nat) : Nat :=
  divisors.foldl (fun acc d => fxOne - x * x / fxOne * acc / (d * fxOne)) fxOne

/-- The sine of an angle in [0, π/2]. -/
def fxSin (x : Nat) : Nat :=
  x * fxAlternating x [22 * 23, 20 * 21, 18 * 19, 16 * 17, 14 * 15, 12 * 13, 10 * 11, 8 * 9, 6 * 7, 4 * 5, 2 * 3] / fxOne

/-- The cosine of an angle in [0, π/2]. -/
def fxCos (x : Nat) : Nat :=
  fxAlternating x
    [23 * 24, 21 * 22, 19 * 20, 17 * 18, 15 * 16, 13 * 14, 11 * 12, 9 * 10, 7 * 8, 5 * 6, 3 * 4, 1 * 2]

/-- `1 + x/1 * (1 + x/2 * (… (1 + x/n * acc)))`. -/
def fxExpFrom (x : Nat) : Nat → Nat → Nat
  | 0, acc => acc
  | n + 1, acc => fxExpFrom x n (fxOne + x * acc / ((n + 1) * fxOne))

/-- The square of a value with 96 fraction bits. -/
def fxSquare (x : Nat) : Nat := x * x / fxOne

/-- The exponential of a value in [0, 8], as the sixteenth power of the exponential of its sixteenth part. -/
def fxExp (x : Nat) : Nat := fxSquare (fxSquare (fxSquare (fxSquare (fxExpFrom (x / 16) 24 fxOne))))

/-- `rnd(n / d)` for a non-negative quotient (R16). -/
def rndNat (n d : Nat) : Nat := (2 * n + d) / (2 * d)

/-- `rnd((a - b) / d)`, half away from zero (R16). -/
def rndDiff (a b d : Nat) : Int := if b ≤ a then (rndNat (a - b) d : Int) else -(rndNat (b - a) d : Int)

/-- `rnd(8388607 * sin(2π k / 2048))` for k in the first quarter cycle, 0 to 512 (R211). -/
def sineQuarter (k : Nat) : Nat := rndNat (8388607 * fxSin (fxPi * k / 1024)) fxOne

/-- `SINE_ROM[i]` for i in 0..2047, from the first quarter by the symmetries of the sine (R211). -/
def sineRom (i : Nat) : Int :=
  if i ≤ 512 then (sineQuarter i : Int)
  else if i ≤ 1024 then (sineQuarter (1024 - i) : Int)
  else if i ≤ 1536 then -(sineQuarter (i - 1024) : Int)
  else -(sineQuarter (2048 - i) : Int)

/-- `SHAPE_ROM[k] = rnd(65536 * (1 - exp(-5k/1024)) / (1 - exp(-5)))` for k in 0..1024, with numerator and
denominator multiplied by exp(5k/1024) * exp(5) (R242). -/
def shapeRom (k : Nat) : Int :=
  (rndNat (65536 * (fxExp (5 * k * fxOne / 1024) - fxOne) * fxExp (5 * fxOne))
    (fxExp (5 * k * fxOne / 1024) * (fxExp (5 * fxOne) - fxOne)) : Int)

/-- `TANH_ROM[k] = rnd(2^23 * tanh(k/256))` for k in 0..1024, with tanh x = (e^2x - 1) / (e^2x + 1) (R273). -/
def tanhRom (k : Nat) : Int :=
  (rndNat (8388608 * (fxExp (2 * k * fxOne / 256) - fxOne)) (fxExp (2 * k * fxOne / 256) + fxOne) : Int)

/-- `Q(r) = 0.2 * 50^(r/63)` with 96 fraction bits (R271). -/
def fxQ (r : Nat) : Nat := fxExp (fxLn50 * r / 63) / 5

/-- `GCOMP_ROM[r] = rnd(65536 * min(1, 1/Q(r)))` for r in 0..63 (R279). -/
def gcompRom (r : Nat) : Int := if fxQ r ≤ fxOne then 65536 else (rndNat (65536 * fxOne) (fxQ r) : Int)

/-- `π * fn(i)`, with `fn(i) = 0.45 * 2^((i - 1023)/96)` (R270). -/
def fxAngle (i : Nat) : Nat := fxPi * (9 * fxOne * fxOne / (20 * fxExp (fxLn2 * (1023 - i) / 96))) / fxOne

/-- `K = tan(π * fn(i))` (R272). -/
def fxK (i : Nat) : Nat := fxSin (fxAngle i) * fxOne / fxCos (fxAngle i)

/-- The coefficients of a section, Q28 (R272). -/
structure Coefs where
  b0 : Int
  a1 : Int
  a2 : Int
deriving DecidableEq, Repr

/-- The coefficients from K² and K/Q with 96 fraction bits: `norm = 1 / (1 + K/Q + K²)` divides each (R272). -/
def coefsOf (k2 kq : Nat) : Coefs :=
  { b0 := (rndNat (268435456 * k2) (fxOne + kq + k2) : Int)
    a1 := rndDiff (536870912 * k2) (536870912 * fxOne) (fxOne + kq + k2)
    a2 := rndDiff (268435456 * (fxOne + k2)) (268435456 * kq) (fxOne + kq + k2) }

/-- `COEF_ROM[i][r]` for i in 0..1023 and r in 0..63 (R272). -/
def coefRom (i r : Nat) : Coefs := coefsOf (fxK i * fxK i / fxOne) (fxK i * fxOne / fxQ r)

end Sys2Proof.Machine
end

