-- ==== Sys2Proof/Machine/Oscillator.lean ====
section
/-! DEFINITION. The additive oscillator bank (42_osc_bank.md): the wavetable read, the partial sum, the phase
advance, the decay level and the cubic soft clip. -/

namespace Sys2Proof.Machine

open Sys2Proof.Config

/-- `a + (((b - a) * f) >> k)`, linear interpolation between two table entries (R212, R243, R274). -/
def lerp (a b : Int) (f k : Nat) : Int := a + asr ((b - a) * (f : Int)) k

/-- `WAVE(ph)`, the interpolated sine read (R212). -/
def wave (ph : Word) : Int :=
  lerp (sineRom (ph.extractLsb' 21 11).toNat) (sineRom (((ph.extractLsb' 21 11).toNat + 1) % 2048))
    (ph.extractLsb' 5 16).toNat 16

/-- `term(v, p)`, the contribution of one partial (R213). -/
def partialTerm (ph : Word) (amp : BitVec 16) : Int := asr (wave ph * ofField amp) 15

/-- `OscSum(v)`, the exact sum of the partials below PCAP (R214). -/
def oscSum (pcap : BitVec 7) (phase : Vector Word NP) (pamp : Vector (BitVec 16) NP) : Int :=
  (List.zipWith partialTerm (phase.toList.take pcap.toNat) (pamp.toList.take pcap.toNat)).sum

/-- `AdvancePhases(v)`: all NP phases advance by their increments modulo 2^32 (R215). -/
def advancePhases (phase pinc : Vector Word NP) : Vector Word NP := Vector.ofFn fun p : Fin NP => phase[p] + pinc[p]

/-- `L' = max(VLEVEL - VDECAY, 0)` (R216). -/
def decayLevel (vlevel vdecay : Word) : Word := BitVec.ofNat 32 (vlevel.toNat - vdecay.toNat)

/-- `banked`, the sum scaled by the decay level (R218). -/
def scaleByLevel (osc : Int) (level : Word) : Int := sat32 (asr (osc * ofField level) 31)

/-- `CUBIC(x)`, the cubic soft clip (R219). -/
def cubic (x : Int) : Int :=
  if 8388608 ≤ x then 8388608
  else if x ≤ -8388608 then -8388608
  else asr (3 * x * 70368744177664 - x * x * x) 47

/-- The left part of the linear pan split (R221). -/
def panLeft (y : Int) (pan : BitVec 17) : Int := gmul y (65536 - ofField pan)

/-- The right part of the linear pan split (R221). -/
def panRight (y : Int) (pan : BitVec 17) : Int := gmul y (ofField pan)

end Sys2Proof.Machine
end

