-- ==== Sys2Proof/Machine/Envelope.lean ====
section
/-! DEFINITION. The ADSR envelope generator (43_envelope.md). -/

namespace Sys2Proof.Machine

/-- `SHAPE(pos)` for a stage position in 0..65535 (R243). -/
def shape (pos : Nat) : Int := lerp (shapeRom (pos / 64)) (shapeRom (pos / 64 + 1)) (pos % 64) 6

/-- The fraction of its stage that a position has covered, by the selected curve (R244). -/
def curveAt (c : Curve) (pos : Nat) : Int :=
  match c with
  | .linear => (pos : Int)
  | .exponential => shape pos

/-- `INTERP(S, T, n, N)`, the level after n of a stage's N frames (R244). -/
def interp (c : Curve) (start target : Int) (n len : Nat) : Int :=
  start + asr ((target - start) * curveAt c (n * 65536 / len)) 16

/-- A level as E holds it. -/
def ofLevel (x : Int) : BitVec 17 := BitVec.ofInt 17 x

/-- `Trigger(v)` (R245). -/
def Adsr.trigger (p : Params) (a : Adsr) : Adsr :=
  { a with sl := a.e, cnt := 0, stage := if 0 < p.envDelay.toNat then .delay else .attack }

/-- `Release(v)` (R246). -/
def Adsr.startRelease (a : Adsr) : Adsr := { a with sl := a.e, cnt := 0, stage := .release }

/-- A frame of the Delay stage (R248). -/
def Adsr.stepDelay (p : Params) (a : Adsr) : Adsr :=
  if p.envDelay.toNat ≤ a.cnt.toNat + 1 then { a with stage := .attack, cnt := 0 }
  else { a with cnt := a.cnt + 1 }

/-- A frame of the Attack stage (R249). -/
def Adsr.stepAttack (p : Params) (a : Adsr) : Adsr :=
  if p.envAttack.toNat ≤ a.cnt.toNat + 1 then
    { stage := .decay, e := p.envOvershoot, cnt := 0, sl := p.envOvershoot }
  else
    { a with
      cnt := a.cnt + 1
      e := ofLevel (interp p.envMode (ofField a.sl) (ofField p.envOvershoot) (a.cnt.toNat + 1) p.envAttack.toNat) }

/-- A frame of the Decay stage (R250). -/
def Adsr.stepDecay (p : Params) (a : Adsr) : Adsr :=
  if p.envDecay.toNat ≤ a.cnt.toNat + 1 then { a with stage := .sustain, e := p.envSustain, cnt := 0 }
  else
    { a with
      cnt := a.cnt + 1
      e := ofLevel (interp p.envMode (ofField a.sl) (ofField p.envSustain) (a.cnt.toNat + 1) p.envDecay.toNat) }

/-- A frame of the Sustain stage (R251). -/
def Adsr.stepSustain (p : Params) (a : Adsr) : Adsr := { a with e := p.envSustain }

/-- A frame of the Release stage (R252). -/
def Adsr.stepRelease (p : Params) (a : Adsr) : Adsr :=
  if p.envRelease.toNat ≤ a.cnt.toNat + 1 then { a with stage := .idle, e := 0, cnt := 0 }
  else
    { a with
      cnt := a.cnt + 1
      e := ofLevel (interp p.envMode (ofField a.sl) 0 (a.cnt.toNat + 1) p.envRelease.toNat) }

/-- `AdsrStep(v)`: one frame of the stage the generator is in (R247 to R252). -/
def Adsr.step (p : Params) (a : Adsr) : Adsr :=
  match a.stage with
  | .idle => a
  | .delay => a.stepDelay p
  | .attack => a.stepAttack p
  | .decay => a.stepDecay p
  | .sustain => a.stepSustain p
  | .release => a.stepRelease p

end Sys2Proof.Machine
end

