-- ==== Sys2Proof/Machine/Operands.lean ====
section
/-! DEFINITION. The one operand form of the block, an absolute register address (R173), decoded to the register
it names (R101, R102), and the legal value that written data becomes (R30, R133). -/

namespace Sys2Proof.Machine

open Sys2Proof.Config

/-- The global registers (10_state.md section 2). -/
inductive GReg where
  | id | cmd | ctrl | status | vcap | pcap | masterGain | vthresh | cutMin | cutoff | reso | envDelay | envAttack
  | envDecay | envSustain | envRelease | envOvershoot | envMode | vcaMode | punchMix | punchDrive | punchHpc
  | noiseSel | noiseLevel | lfoInc | lfoPhase | move | frameCount | vactive | activeCount | outL | outR | peakL
  | peakR | energyLLo | energyLHi | energyRLo | energyRHi | energyCount
deriving DecidableEq, Repr

/-- The registers of a voice block (R67). -/
inductive VReg where
  | vstat | vlevel | vdecay | vpan | vvel | vpres | vage | venv | vnstate
  | pinc (p : Fin NP) | pamp (p : Fin NP) | phase (p : Fin NP)
deriving DecidableEq, Repr

/-- The registers of the register space (R101). -/
inductive Reg where
  | glob (g : GReg)
  | modDepth (d : Fin 3) (s : Fin 4)
  | voice (v : Fin NV) (r : VReg)
deriving DecidableEq, Repr

/-- The byte address of a global register (10_state.md section 2). -/
def GReg.addr : GReg → Nat
  | .id => 0x0000 | .cmd => 0x0004 | .ctrl => 0x0008 | .status => 0x000C
  | .vcap => 0x0010 | .pcap => 0x0014 | .masterGain => 0x0018 | .vthresh => 0x001C
  | .cutMin => 0x0020 | .cutoff => 0x0024 | .reso => 0x0028
  | .envDelay => 0x002C | .envAttack => 0x0030 | .envDecay => 0x0034 | .envSustain => 0x0038
  | .envRelease => 0x003C | .envOvershoot => 0x0040 | .envMode => 0x0044
  | .vcaMode => 0x0048 | .punchMix => 0x004C | .punchDrive => 0x0050 | .punchHpc => 0x0054
  | .noiseSel => 0x0058 | .noiseLevel => 0x005C
  | .lfoInc => 0x0060 | .lfoPhase => 0x0064 | .move => 0x0068
  | .frameCount => 0x0070 | .vactive => 0x0074 | .activeCount => 0x0078
  | .outL => 0x007C | .outR => 0x0080 | .peakL => 0x0084 | .peakR => 0x0088
  | .energyLLo => 0x008C | .energyLHi => 0x0090 | .energyRLo => 0x0094 | .energyRHi => 0x0098
  | .energyCount => 0x009C

/-- Every global register, in address order. -/
def GReg.all : List GReg :=
  [.id, .cmd, .ctrl, .status, .vcap, .pcap, .masterGain, .vthresh, .cutMin, .cutoff, .reso, .envDelay, .envAttack,
    .envDecay, .envSustain, .envRelease, .envOvershoot, .envMode, .vcaMode, .punchMix, .punchDrive, .punchHpc,
    .noiseSel, .noiseLevel, .lfoInc, .lfoPhase, .move, .frameCount, .vactive, .activeCount, .outL, .outR, .peakL,
    .peakR, .energyLLo, .energyLHi, .energyRLo, .energyRHi, .energyCount]

/-- The offset of a register in its voice block (R67). -/
def VReg.offset : VReg → Nat
  | .vstat => 0x000 | .vlevel => 0x004 | .vdecay => 0x008 | .vpan => 0x00C | .vvel => 0x010 | .vpres => 0x014
  | .vage => 0x018 | .venv => 0x01C | .vnstate => 0x020
  | .pinc p => 0x100 + 4 * p.val
  | .pamp p => 0x200 + 4 * p.val
  | .phase p => 0x300 + 4 * p.val

/-- The voice registers below the partial arrays, in offset order (R67). -/
def VReg.fixed : List VReg := [.vstat, .vlevel, .vdecay, .vpan, .vvel, .vpres, .vage, .venv, .vnstate]

/-- `VB(v)`, the base of a voice block (R67). -/
def voiceBase (v : Nat) : Nat := 0x1000 + 0x400 * v

/-- The byte address of a register (R66, R67). -/
def Reg.addr : Reg → Nat
  | .glob g => g.addr
  | .modDepth d s => 0x0100 + 4 * (4 * d.val + s.val)
  | .voice v r => voiceBase v.val + r.offset

/-- The register at an aligned offset of a voice block; offsets 0x024 to 0x0FC name none (R101, R102). -/
def decodeOffset (o : Nat) : Option VReg :=
  if o < 0x100 then VReg.fixed.find? (fun r => r.offset == o)
  else if h : o < 0x200 then some (.pinc ⟨(o - 0x100) / 4, by show _ < 64; omega⟩)
  else if h : o < 0x300 then some (.pamp ⟨(o - 0x200) / 4, by show _ < 64; omega⟩)
  else if h : o < 0x400 then some (.phase ⟨(o - 0x300) / 4, by show _ < 64; omega⟩)
  else none

/-- `Decode(a)` for an aligned address: the register it names, if any (R101, R102). -/
def decodeAddr (a : Addr) : Option Reg :=
  if a.toNat < 0x100 then (GReg.all.find? (fun g => g.addr == a.toNat)).map Reg.glob
  else if a.toNat < 0x1000 then
    if h : (a.toNat - 0x100) / 16 < 3 then
      some (.modDepth ⟨(a.toNat - 0x100) / 16, h⟩ ⟨(a.toNat - 0x100) / 4 % 4, by omega⟩)
    else none
  else if h : (a.toNat - 0x1000) / 0x400 < NV then
    (decodeOffset ((a.toNat - 0x1000) % 0x400)).map (Reg.voice ⟨(a.toNat - 0x1000) / 0x400, h⟩)
  else none

/-- `addr[1:0] ≠ 0` (R104). -/
def misaligned (a : Addr) : Bool := a.extractLsb' 0 2 != 0#2

/-- The global registers that a WR may not change (R106). -/
def GReg.readOnly : GReg → Bool
  | .id | .frameCount | .vactive | .activeCount | .outL | .outR | .peakL | .peakR | .energyLLo | .energyLHi
  | .energyRLo | .energyRHi | .energyCount => true
  | .cmd | .ctrl | .status | .vcap | .pcap | .masterGain | .vthresh | .cutMin | .cutoff | .reso | .envDelay
  | .envAttack | .envDecay | .envSustain | .envRelease | .envOvershoot | .envMode | .vcaMode | .punchMix
  | .punchDrive | .punchHpc | .noiseSel | .noiseLevel | .lfoInc | .lfoPhase | .move => false

/-- The voice registers that a WR may not change (R106). -/
def VReg.readOnly : VReg → Bool
  | .vstat | .vage | .venv => true
  | .vlevel | .vdecay | .vpan | .vvel | .vpres | .vnstate | .pinc _ | .pamp _ | .phase _ => false

/-- The RO registers (R106). -/
def Reg.readOnly : Reg → Bool
  | .glob g => g.readOnly
  | .modDepth _ _ => false
  | .voice _ r => r.readOnly

/-- The legal value of an unsigned field of `w` bits: the written word clamped to [lo, hi] (R30, R133). -/
def legalU (w lo hi : Nat) (d : Word) : BitVec w := BitVec.ofNat w (min (max d.toNat lo) hi)

/-- The legal value of a signed Q16 register: `clamp(s32(d), -65536, 65536)` (R66, R73, R74). -/
def legalS (d : Word) : Word := BitVec.ofInt 32 (clamp d.toInt (-65536) 65536)

/-- ENV_MODE takes bit 0 (R48). -/
def legalCurve (d : Word) : Curve := if d.getLsbD 0 then .linear else .exponential

/-- VCA_MODE takes bit 0 (R49). -/
def legalResponse (d : Word) : Response := if d.getLsbD 0 then .squared else .linear

/-- NOISE_SEL takes bits 1:0, and stores 0 for 3 (R53). -/
def legalColor (d : Word) : NoiseColor :=
  if d.extractLsb' 0 2 = 1#2 then .pink else if d.extractLsb' 0 2 = 2#2 then .mauve else .white

/-- VNSTATE stores 1 for 0 (R76). -/
def legalSeed (d : Word) : Word := if d = 0#32 then 1#32 else d

/-- The VSTAT code of a stage (R68). -/
def Stage.code : Stage → BitVec 3
  | .idle => 0 | .delay => 1 | .attack => 2 | .decay => 3 | .sustain => 4 | .release => 5

/-- The code of ENV_MODE.CURVE (R48). -/
def Curve.code : Curve → Word
  | .exponential => 0 | .linear => 1

/-- The code of VCA_MODE.RESP (R49). -/
def Response.code : Response → Word
  | .linear => 0 | .squared => 1

/-- The code of NOISE_SEL.COLOR (R53). -/
def NoiseColor.code : NoiseColor → Word
  | .white => 0 | .pink => 1 | .mauve => 2

/-- The place of MOD_DEPTH[d][s] among the twelve depths (R66). -/
def depthIndex (d : Fin 3) (s : Fin 4) : Fin ND := ⟨4 * d.val + s.val, by show _ < 12; omega⟩

end Sys2Proof.Machine
end

