-- ==== Sys2Proof/Machine/ModMatrix.lean ====
section
/-! DEFINITION. The LFO and the modulation matrix (47_modmatrix.md). -/

namespace Sys2Proof.Machine

open Sys2Proof.Config

/-- The LFO value of a frame, Q16 (R192, R340). -/
def lfoValue (lfoPhase : Word) : Int := asr (wave lfoPhase) 7

/-- The four sources of the matrix: LFO, envelope, velocity, pressure (R341). -/
structure ModSources where
  lfo : Int
  env : Int
  vel : Int
  pres : Int
deriving DecidableEq, Repr

/-- The sources of a voice in a frame; MOVE scales the LFO alone (R341, R342). -/
def modSources (p : Params) (lfo : Int) (e : BitVec 17) (vvel vpres : Word) : ModSources :=
  { lfo := q16 lfo (ofField p.move), env := min (ofField e) 65536, vel := vvel.toInt, pres := vpres.toInt }

/-- MOD_DEPTH[d][s] as a signed value (R66). -/
def depth (p : Params) (d : Fin 3) (s : Fin 4) : Int := (p.modDepth[depthIndex d s]).toInt

/-- `m_d`, the modulation of destination `d` (R343). -/
def modSum (p : Params) (d : Fin 3) (src : ModSources) : Int :=
  clamp (asr (depth p d 0 * src.lfo + depth p d 1 * src.env + depth p d 2 * src.vel + depth p d 3 * src.pres) 16)
    (-65536) 65536

/-- The three modulation values `(mc, mr, mv)`. -/
structure Modulation where
  cutoff : Int
  reso : Int
  vca : Int
deriving DecidableEq, Repr

/-- `ModMatrix(v, lfo)` (R343). -/
def modMatrix (p : Params) (lfo : Int) (e : BitVec 17) (vvel vpres : Word) : Modulation :=
  let src := modSources p lfo e vvel vpres
  { cutoff := modSum p 0 src, reso := modSum p 1 src, vca := modSum p 2 src }

end Sys2Proof.Machine
end

