-- ==== Sys2Proof/Machine/Noise.lean ====
section
/-! DEFINITION. The white, pink and mauve noise generators of a voice (46_noise.md). -/

namespace Sys2Proof.Machine

/-- One step of the white generator's 32-bit state (R320). -/
def xorshift (x : Word) : Word :=
  let a := x ^^^ (x <<< 13)
  let b := a ^^^ (a >>> 17)
  b ^^^ (b <<< 5)

/-- The white sample of a generator state (R320). -/
def whiteSample (x : Word) : Int := asr x.toInt 8

/-- One pink tap: `q16(PBj, kj) + q16(w, gj)` (R321). -/
def pinkTap (pb : Word) (k w g : Int) : Int := q16 pb.toInt k + q16 w g

/-- The pink taps after a step from the white sample `w` (R321). -/
def pinkStep (w : Int) (b : PinkTaps) : PinkTaps :=
  { pb0 := ofSample (pinkTap b.pb0 65461 w 3638)
    pb1 := ofSample (pinkTap b.pb1 65098 w 4920)
    pb2 := ofSample (pinkTap b.pb2 63504 w 10083)
    pb3 := ofSample (pinkTap b.pb3 56787 w 20348)
    pb4 := ofSample (pinkTap b.pb4 36045 w 34928)
    pb5 := ofSample (pinkTap b.pb5 (-49912) w (-1107))
    pb6 := ofSample (q16 w 7597) }

/-- `tot`, from the new PB0 to PB5 and the previous frame's PB6 (R321). -/
def pinkTotal (w : Int) (old new : PinkTaps) : Int :=
  new.pb0.toInt + new.pb1.toInt + new.pb2.toInt + new.pb3.toInt + new.pb4.toInt + new.pb5.toInt + old.pb6.toInt
    + q16 w 35140

/-- The pink sample (R321). -/
def pinkSample (w : Int) (old new : PinkTaps) : Int := sat32 (q16 (pinkTotal w old new) 7209)

/-- A leaky integrator of the mauve cascade (R322). -/
def mauveLeak (ms : Word) (input : Int) : Int := q16 ms.toInt 65208 + q16 input 328

/-- The mauve sample of the second integrator's new value (R322). -/
def mauveSample (ms2 : Word) : Int := sat32 (ms2.toInt * 16)

/-- What a noise step leaves: the new generator state and the sample that NOISE_SEL selects. -/
structure NoiseTurn where
  vnstate : Word
  pink : PinkTaps
  ms1 : Word
  ms2 : Word
  sample : Int
deriving DecidableEq, Repr

/-- The sample that NOISE_SEL selects (R323). -/
def selectNoise (c : NoiseColor) (white pink mauve : Int) : Int :=
  match c with
  | .white => white
  | .pink => pink
  | .mauve => mauve

/-- `NoiseStep(v)`: all three generators step from the same white sample, whichever is selected (R323, R325). -/
def noiseStep (c : NoiseColor) (vnstate : Word) (pink : PinkTaps) (ms1 ms2 : Word) : NoiseTurn :=
  let x := xorshift vnstate
  let w := whiteSample x
  let taps := pinkStep w pink
  let m1 := ofSample (mauveLeak ms1 w)
  let m2 := ofSample (mauveLeak ms2 m1.toInt)
  { vnstate := x
    pink := taps
    ms1 := m1
    ms2 := m2
    sample := selectNoise c w (pinkSample w pink taps) (mauveSample m2) }

end Sys2Proof.Machine
end

