-- ==== Sys2Proof/Machine/Filter.lean ====
section
/-! DEFINITION. The resonant low-pass filter and its saturation (44_filter.md). -/

namespace Sys2Proof.Machine

open Sys2Proof.Config

/-- `CutoffIndex(mc)`, in CUT_MIN..1023 (R270, R344). -/
def cutoffIndex (p : Params) (mc : Int) : Nat :=
  (clamp (ofField p.cutoff + asr (mc * cutModSteps) 16) (ofField p.cutMin) cutTop).toNat

/-- `ResoIndex(mr)`, in 0..63 (R271, R345). -/
def resoIndex (p : Params) (mr : Int) : Nat := (asr (clamp (ofField p.reso + mr) 0 65536 * 63 + 32768) 16).toNat

/-- The magnitude of TANH for a magnitude `a` (R274). -/
def tanhMag (a : Nat) : Int :=
  if 1024 ≤ a / 32768 then tanhRom 1024
  else lerp (tanhRom (a / 32768)) (tanhRom (a / 32768 + 1)) (a % 32768) 15

/-- `TANH(x)`, the odd hyperbolic-tangent soft clip (R274). -/
def tanhClip (x : Int) : Int := if 0 ≤ x then tanhMag x.natAbs else -tanhMag x.natAbs

/-- `acc`, the exact sum of a section (R277). -/
def biquadAcc (c : Coefs) (x : Int) (sec : Section) : Int :=
  c.b0 * x + 2 * c.b0 * sec.x1.toInt + c.b0 * sec.x2.toInt - c.a1 * sec.y1.toInt - c.a2 * sec.y2.toInt
    + ofField sec.ef

/-- `y`, the output of a section (R277). -/
def biquadOut (acc : Int) : Int := sat32 (asr acc 28)

/-- The residue: what the shift discarded, or 0 when the output saturated (R277). -/
def biquadResidue (acc : Int) : BitVec 28 :=
  if biquadOut acc = asr acc 28 then BitVec.ofInt 28 (acc - asr acc 28 * 268435456) else 0

/-- The section after `Biquad(sec, x, B0, A1, A2)` (R277); its output is the new Y1. -/
def biquad (c : Coefs) (x : Int) (sec : Section) : Section :=
  { x1 := ofSample x
    x2 := sec.x1
    y1 := ofSample (biquadOut (biquadAcc c x sec))
    y2 := sec.y1
    ef := biquadResidue (biquadAcc c x sec) }

/-- What a filter step leaves: the two sections and the filter's output x4. -/
structure FilterTurn where
  sec1 : Section
  sec2 : Section
  out : Int
deriving DecidableEq, Repr

/-- The signal path through the filter: saturation, the cascade with shared coefficients, gain compensation and
saturation (R275, R276, R278, R279, R280). -/
def filterStep (idx r : Nat) (x1 : Int) (sec1 sec2 : Section) : FilterTurn :=
  let c := coefRom idx r
  let s1 := biquad c (tanhClip x1) sec1
  let s2 := biquad c s1.y1.toInt sec2
  { sec1 := s1, sec2 := s2, out := tanhClip (gmul s2.y1.toInt (gcompRom r)) }

end Sys2Proof.Machine
end

