-- ==== Sys2Proof/Machine/Vca.lean ====
section
/-! DEFINITION. The VCA and its parallel punch path (45_vca.md). -/

namespace Sys2Proof.Machine

/-- The VCA control `c` (R300, R346). -/
def vcaControl (e : BitVec 17) (mv : Int) : Int := clamp (ofField e + mv) 0 81920

/-- `VcaGain(E, mv)` (R301). -/
def vcaGain (resp : Response) (e : BitVec 17) (mv : Int) : Int :=
  match resp with
  | .linear => vcaControl e mv
  | .squared => asr (vcaControl e mv * vcaControl e mv) 16

/-- `main`, the main path (R302). -/
def vcaMain (x4 g : Int) : Int := cubic (gmul x4 g)

/-- `hp`, the output of the punch high-pass (R303). -/
def punchHighPass (hpc : BitVec 16) (x4 : Int) (hx1 hy1 : Word) : Int :=
  sat32 (asr (ofField hpc * (hy1.toInt + x4 - hx1.toInt)) 16)

/-- `pm`, the punch contribution (R304, R305). -/
def punchMixed (p : Params) (hp g : Int) : Int :=
  gmul (gmul (tanhClip (gmul hp (ofField p.punchDrive))) g) (ofField p.punchMix)

/-- What the VCA leaves: the new punch high-pass state and the voice's signal-path output y. -/
structure VcaTurn where
  hx1 : Word
  hy1 : Word
  out : Int
deriving DecidableEq, Repr

/-- The VCA with its punch path (R302 to R305). -/
def vcaStep (p : Params) (e : BitVec 17) (mv x4 : Int) (hx1 hy1 : Word) : VcaTurn :=
  let g := vcaGain p.vcaMode e mv
  let hp := punchHighPass p.punchHpc x4 hx1 hy1
  { hx1 := ofSample x4, hy1 := ofSample hp, out := sat32 (vcaMain x4 g + punchMixed p hp g) }

end Sys2Proof.Machine
end

