-- ==== Sys2Proof/Machine/VoiceFrame.lean ====
section
/-! DEFINITION. One voice in one frame (41_frame.md section 3). -/

namespace Sys2Proof.Machine

open Sys2Proof.Config

/-- What a voice's turn in a frame leaves: the voice after it, and its left and right contributions. -/
structure Turn where
  voice : Voice
  left : Int
  right : Int
deriving DecidableEq, Repr

/-- `Deactivate(v)`: SL, VAGE, the phases and the signal path keep their values (R199). -/
def Voice.deactivate (x : Voice) : Voice :=
  { x with active := false, adsr := { x.adsr with stage := .idle, e := 0, cnt := 0 } }

/-- The signal path of a frame as its parts compute it, from the noise step to the pan (R198). -/
structure PathTurn where
  noise : NoiseTurn
  adsr : Adsr
  filter : FilterTurn
  vca : VcaTurn
deriving DecidableEq, Repr

/-- The steps of `VoiceFrame` from the per-voice soft clip to the signal-path output; `banked` is the scaled
oscillator sum (R198). -/
def pathTurn (p : Params) (lfo banked : Int) (x : Voice) : PathTurn :=
  let nz := noiseStep p.noiseSel x.vnstate x.path.pink x.path.ms1 x.path.ms2
  let x1 := sat32 (cubic banked + gmul nz.sample (ofField p.noiseLevel))
  let a := x.adsr.step p
  let m := modMatrix p lfo a.e x.vvel x.vpres
  let f := filterStep (cutoffIndex p m.cutoff) (resoIndex p m.reso) x1 x.path.sec1 x.path.sec2
  { noise := nz, adsr := a, filter := f, vca := vcaStep p a.e m.vca f.out x.path.hx1 x.path.hy1 }

/-- The filter, punch and noise-filter state a signal path leaves. -/
def PathTurn.path (t : PathTurn) : SignalPath :=
  { sec1 := t.filter.sec1
    sec2 := t.filter.sec2
    hx1 := t.vca.hx1
    hy1 := t.vca.hy1
    pink := t.noise.pink
    ms1 := t.noise.ms1
    ms2 := t.noise.ms2 }

/-- The voice at the end of a frame it sounded in: a voice whose ADSR ended becomes inactive (R200), and VAGE
counts the frame (R201). -/
def Voice.afterPath (x : Voice) (t : PathTurn) : Voice :=
  { x with
    active := if t.adsr.stage = .idle then false else x.active
    adsr := t.adsr
    vage := satInc x.vage
    vnstate := t.noise.vnstate
    path := t.path
    phase := advancePhases x.phase x.pinc }

/-- The part of `VoiceFrame` after the threshold check has passed (R198). -/
def soundVoice (p : Params) (lfo osc : Int) (x : Voice) : Turn :=
  let t := pathTurn p lfo (scaleByLevel osc x.vlevel) x
  { voice := x.afterPath t, left := panLeft t.vca.out x.vpan, right := panRight t.vca.out x.vpan }

/-- `VoiceFrame(v, lfo)`: the decay level is lowered and tested before anything else moves (R198, R216, R217). -/
def voiceFrame (p : Params) (lfo : Int) (x : Voice) : Turn :=
  let level := decayLevel x.vlevel x.vdecay
  if level.toNat < p.vthresh.toNat then
    { voice := Voice.deactivate { x with vlevel := level }, left := 0, right := 0 }
  else soundVoice p lfo (oscSum p.pcap x.phase x.pamp) { x with vlevel := level }

/-- The turn of voice `v`: it is processed exactly when it is below VCAP and active, and otherwise holds its
state and adds nothing (R190, R193). -/
def voiceTurn (p : Params) (lfo : Int) (v : Nat) (x : Voice) : Turn :=
  if v < p.vcap.toNat ∧ x.active = true then voiceFrame p lfo x else { voice := x, left := 0, right := 0 }

end Sys2Proof.Machine
end

