-- ==== Sys2Proof/Machine/Frame.lean ====
section
/-! DEFINITION. The frame that a tick computes (41_frame.md sections 1 and 2). -/

namespace Sys2Proof.Machine

open Sys2Proof.Config

/-- The turns of all voices in a frame. Each reads only its own voice, the parameters and the LFO (R202). -/
def State.turns (s : State) : Vector Turn NV :=
  Vector.ofFn fun v : Fin NV => voiceTurn s.params (lfoValue s.lfoPhase) v.val s.voices[v]

/-- The voices after their turns. -/
def turnVoices (ts : Vector Turn NV) : Vector Voice NV := Vector.ofFn fun v : Fin NV => (ts[v]).voice

/-- ML, the exact sum of the left contributions (R190). -/
def mixLeft (ts : Vector Turn NV) : Int := (ts.toList.map Turn.left).sum

/-- MR, the exact sum of the right contributions (R190). -/
def mixRight (ts : Vector Turn NV) : Int := (ts.toList.map Turn.right).sum

/-- `FinalStage(M)` as an integer (R194). -/
def finalStage (gain : BitVec 18) (m : Int) : Int := min (cubic (gmul (sat32 m) (ofField gain))) 8388607

/-- An output sample's word. -/
def ofOut (x : Int) : OutSample := BitVec.ofInt 24 x

/-- `Telemetry(l, r)` (R196). -/
def Telem.accumulate (t : Telem) (l r : OutSample) : Telem :=
  { t with
    peakL := BitVec.ofNat 24 (max t.peakL.toNat l.toInt.natAbs)
    peakR := BitVec.ofNat 24 (max t.peakR.toNat r.toInt.natAbs)
    energyL := BitVec.ofNat 64 (min (t.energyL.toNat + l.toInt.natAbs * l.toInt.natAbs) 18446744073709551615)
    energyR := BitVec.ofNat 64 (min (t.energyR.toNat + r.toInt.natAbs * r.toInt.natAbs) 18446744073709551615)
    energyCount := satInc t.energyCount }

/-- The end of an enabled frame: emit it, account for it, and advance the clock (R195, R196, R197). -/
def State.finishFrame (s : State) (l r : OutSample) : State :=
  ((s.emitFrame l r).setTelem (s.telem.accumulate l r)).advanceClock

/-- The left sample of an enabled frame (R190, R194). -/
def State.frameLeft (s : State) : OutSample := ofOut (finalStage s.params.masterGain (mixLeft s.turns))

/-- The right sample of an enabled frame (R190, R194). -/
def State.frameRight (s : State) : OutSample := ofOut (finalStage s.params.masterGain (mixRight s.turns))

/-- An enabled frame (R190). -/
def State.frameEnabled (s : State) : State :=
  (s.setVoices (turnVoices s.turns)).finishFrame s.frameLeft s.frameRight

/-- `FrameDisabled()`: silence, and nothing else changes (R191). -/
def State.frameDisabled (s : State) : State := s.emitFrame 0 0

/-- `Frame()` (R190). -/
def State.frame (s : State) : State := if s.params.en then s.frameEnabled else s.frameDisabled

end Sys2Proof.Machine
end

