-- ==== Sys2Proof/Syntax.lean ====
section
/-! DEFINITION. The instructions of the AOBV block: one constructor for each row of spec/opcode_table.json, with
the operands that rules R160 to R170 list for it. -/

namespace Sys2Proof

/-- The host operations (R130, R131) and the commands, which are writes to CMD (R135, R136). -/
inductive Instr where
  /-- RD, a register read. Its DATA field is ignored (R132). -/
  | rd (addr : Addr)
  /-- WR, a register write (R133). A write to CMD that is one of the commands below is that command's
  constructor; the reserved command words (R137) stay here. -/
  | wr (addr : Addr) (data : Word)
  /-- TICK, the sample clock. It has no operands (R134). -/
  | tick
  /-- NOP (R164). A global command ignores its VOICE field (R138). -/
  | nop
  /-- PREPARE (R165). -/
  | prepare
  /-- TELEM_CLEAR (R166). -/
  | telemClear
  /-- VOICE_START (R167). The VOICE field is eight bits wide; a value of NV or more is rejected when it runs. -/
  | voiceStart (voice : BitVec 8)
  /-- VOICE_RELEASE (R168). -/
  | voiceRelease (voice : BitVec 8)
  /-- VOICE_RETRIGGER (R169). -/
  | voiceRetrigger (voice : BitVec 8)
  /-- VOICE_STOP (R170). -/
  | voiceStop (voice : BitVec 8)
deriving DecidableEq, Repr

end Sys2Proof
end

