-- ==== Sys2Proof/WellFormed.lean ====
section
/-! DEFINITION. Which instructions the encoding can express. Every operand value of every constructor is
encodable but one: a WR to CMD whose data is the word of a command is that command, not a WR. -/

namespace Sys2Proof

/-- The command opcodes of R136. -/
def commandOps : List (BitVec 8) := [0x00#8, 0x01#8, 0x02#8, 0x10#8, 0x11#8, 0x12#8, 0x13#8]

/-- The data words that match a command row of the opcode table: RSVD is zero and OP is a listed opcode
(R136, R143). A voice index of NV or more still matches its row; it is rejected when the command runs. -/
def isCommandWord (d : Word) : Bool :=
  d.extractLsb' 16 16 == 0#16 && commandOps.contains (d.extractLsb' 0 8)

/-- The bus address of CMD (R32). -/
def cmdAddr : Addr := 0x0004#16

/-- The instructions that some operation word encodes. -/
def Instr.wf : Instr → Bool
  | .rd _ => true
  | .wr a d => !(a == cmdAddr && isCommandWord d)
  | .tick => true
  | .nop => true
  | .prepare => true
  | .telemClear => true
  | .voiceStart _ => true
  | .voiceRelease _ => true
  | .voiceRetrigger _ => true
  | .voiceStop _ => true

end Sys2Proof
end

