-- ==== Sys2Proof/Decode.lean ====
section
/-! DEFINITION. Decoding a host operation word (R130 to R138, R143), and the encoder written from the same
tables. Decoding is total: the one word it refuses is a word of the reserved KIND 11 (R131). -/

namespace Sys2Proof

/-- Why a word decodes to no operation. -/
inductive DecodeError where
  /-- KIND = 11 encodes no operation (R131). -/
  | reservedKind
deriving DecidableEq, Repr

/-- KIND, bits 49:48 (R130). -/
def How.kind (w : How) : BitVec 2 := w.extractLsb' 48 2

/-- ADDR, bits 47:32 (R130). -/
def How.addr (w : How) : Addr := w.extractLsb' 32 16

/-- DATA, bits 31:0 (R130). -/
def How.data (w : How) : Word := w.extractLsb' 0 32

/-- The word with the given fields (R130). -/
def How.pack (kind : BitVec 2) (addr : Addr) (data : Word) : How := kind ++ addr ++ data

/-- OP, bits 7:0 of a command word (R135). -/
def cmdOp (d : Word) : BitVec 8 := d.extractLsb' 0 8

/-- VOICE, bits 15:8 of a command word (R135). -/
def cmdVoice (d : Word) : BitVec 8 := d.extractLsb' 8 8

/-- RSVD, bits 31:16 of a command word (R135). -/
def cmdRsvd (d : Word) : BitVec 16 := d.extractLsb' 16 16

/-- The command word with RSVD = 0 (R135). -/
def packCommand (voice op : BitVec 8) : Word := 0#16 ++ voice ++ op

/-- The command rows of the opcode table, on the data of a WR to CMD (R136, R143). -/
def decodeCommand (d : Word) : Option Instr :=
  if cmdRsvd d ≠ 0#16 then none
  else if cmdOp d = 0x00#8 then some .nop
  else if cmdOp d = 0x01#8 then some .prepare
  else if cmdOp d = 0x02#8 then some .telemClear
  else if cmdOp d = 0x10#8 then some (.voiceStart (cmdVoice d))
  else if cmdOp d = 0x11#8 then some (.voiceRelease (cmdVoice d))
  else if cmdOp d = 0x12#8 then some (.voiceRetrigger (cmdVoice d))
  else if cmdOp d = 0x13#8 then some (.voiceStop (cmdVoice d))
  else none

/-- A WR, or the command it carries (R143). -/
def decodeWrite (a : Addr) (d : Word) : Instr :=
  if a = cmdAddr then (decodeCommand d).getD (.wr a d) else .wr a d

/-- The operation a word encodes (R131). The DATA of an RD and the ADDR and DATA of a TICK are ignored
(R132, R134). -/
def decode (w : How) : Except DecodeError Instr :=
  if w.kind = 0b00#2 then .ok (.rd w.addr)
  else if w.kind = 0b01#2 then .ok (decodeWrite w.addr w.data)
  else if w.kind = 0b10#2 then .ok .tick
  else .error .reservedKind

/-- The word of an instruction, with every ignored field zero (R130, R135, R136). -/
def encode : Instr → How
  | .rd a => How.pack 0b00#2 a 0#32
  | .wr a d => How.pack 0b01#2 a d
  | .tick => How.pack 0b10#2 0#16 0#32
  | .nop => How.pack 0b01#2 cmdAddr (packCommand 0#8 0x00#8)
  | .prepare => How.pack 0b01#2 cmdAddr (packCommand 0#8 0x01#8)
  | .telemClear => How.pack 0b01#2 cmdAddr (packCommand 0#8 0x02#8)
  | .voiceStart v => How.pack 0b01#2 cmdAddr (packCommand v 0x10#8)
  | .voiceRelease v => How.pack 0b01#2 cmdAddr (packCommand v 0x11#8)
  | .voiceRetrigger v => How.pack 0b01#2 cmdAddr (packCommand v 0x12#8)
  | .voiceStop v => How.pack 0b01#2 cmdAddr (packCommand v 0x13#8)

/-- The operation word in the low `nbits` bits of `w`. A host operation is one 50-bit word (R130), so its
table numbering is the word's own, and a number that does not fit in 50 bits is no operation word. -/
def howOfTableWord (nbits w : Nat) : Option How :=
  if w % 2 ^ nbits < 2 ^ 50 then some (BitVec.ofNat 50 (w % 2 ^ nbits)) else none

/-- The instruction the decoder reads from a table word; none where it refuses. -/
def decodeTableWord (nbits w : Nat) : Option Instr :=
  match howOfTableWord nbits w with
  | none => none
  | some h =>
    match decode h with
    | .ok i => some i
    | .error _ => none

end Sys2Proof
end

