-- ==== Sys2Proof/Machine/Flags.lean ====
section
/-! DEFINITION. The two sticky flags of STATUS (R34, R87): setting them, reading them and clearing them by
writing one. A rejected operation's whole effect is one of the two set operations (R360, R361). -/

namespace Sys2Proof.Machine

/-- `flag BUSERR`, the effect of a rejected bus access (R361). -/
def State.flagBusErr (s : State) : State := { s with busErr := true }

/-- `flag CMDERR`, the effect of a rejected command (R361). -/
def State.flagCmdErr (s : State) : State := { s with cmdErr := true }

/-- STATUS as it reads: BUSERR in bit 1, CMDERR in bit 0 (R34). -/
def State.statusWord (s : State) : Word :=
  (BitVec.ofBool s.busErr ++ BitVec.ofBool s.cmdErr).setWidth 32

/-- A write of `d` to STATUS clears each flag whose bit is one in `d` (R34). -/
def State.clearStatus (s : State) (d : Word) : State :=
  { s with cmdErr := s.cmdErr && !d.getLsbD 0, busErr := s.busErr && !d.getLsbD 1 }

end Sys2Proof.Machine
end

