-- ==== Sys2Proof/Machine/Commands.lean ====
section
/-! DEFINITION. The commands (40_host_ops.md section 2): what each does to the state, the dispatch of a word
written to CMD, and the meanings of the seven command instructions. -/

namespace Sys2Proof.Machine

open Sys2Proof.Config

/-- A voice after PREPARE: its processing state returns to reset and its host-written registers stay (R165). -/
def Voice.prepare (v : Nat) (x : Voice) : Voice :=
  { x with active := false, adsr := Adsr.reset, vage := 0, path := SignalPath.reset, vnstate := seed v }

/-- PREPARE (R165). -/
def State.prepare (s : State) : State :=
  { s with
    voices := Vector.ofFn fun v : Fin NV => Voice.prepare v.val s.voices[v]
    lfoPhase := 0
    frameCount := 0
    outL := 0
    outR := 0
    telem := Telem.reset }

/-- TELEM_CLEAR (R166). -/
def State.telemClear (s : State) : State := s.setTelem Telem.reset

/-- VOICE_START: the block-owned state of the voice is reset and its envelope triggered from level 0; VNSTATE
and the host-written registers stay (R167). -/
def Voice.start (p : Params) (x : Voice) : Voice :=
  { x with
    active := true
    vage := 0
    path := SignalPath.reset
    adsr := Adsr.trigger p { x.adsr with e := 0 } }

/-- VOICE_RELEASE: an active voice enters Release, an inactive one is unchanged (R168). -/
def Voice.release (x : Voice) : Voice := if x.active then { x with adsr := x.adsr.startRelease } else x

/-- VOICE_RETRIGGER: an active voice is triggered from its current level, an inactive one is unchanged (R169). -/
def Voice.retrigger (p : Params) (x : Voice) : Voice := if x.active then { x with adsr := x.adsr.trigger p } else x

/-- VOICE_STOP (R170). -/
def Voice.stop (x : Voice) : Voice := { x with active := false, adsr := Adsr.reset }

/-- Apply a voice command to the voice its VOICE field names; an index of NV or more is rejected with CMDERR
(R163). -/
def State.voiceCommand (s : State) (v : BitVec 8) (f : Voice → Voice) : State :=
  if h : v.toNat < NV then s.updVoice ⟨v.toNat, h⟩ f else s.flagCmdErr

/-- `Command(w)`: the checks of R163 in their order, then the command (R136, R163). -/
def State.command (s : State) (w : Word) : State :=
  if cmdRsvd w ≠ 0#16 then s.flagCmdErr
  else if cmdOp w = 0x00#8 then s
  else if cmdOp w = 0x01#8 then s.prepare
  else if cmdOp w = 0x02#8 then s.telemClear
  else if cmdOp w = 0x10#8 then s.voiceCommand (cmdVoice w) (Voice.start s.params)
  else if cmdOp w = 0x11#8 then s.voiceCommand (cmdVoice w) Voice.release
  else if cmdOp w = 0x12#8 then s.voiceCommand (cmdVoice w) (Voice.retrigger s.params)
  else if cmdOp w = 0x13#8 then s.voiceCommand (cmdVoice w) Voice.stop
  else s.flagCmdErr

/-- NOP changes no state (R164). -/
def execNop (s : State) : Host.Outcome State Fault Refusal := .next s

/-- PREPARE (R165). -/
def execPrepare (s : State) : Host.Outcome State Fault Refusal := .next s.prepare

/-- TELEM_CLEAR (R166). -/
def execTelemClear (s : State) : Host.Outcome State Fault Refusal := .next s.telemClear

/-- VOICE_START (R167). -/
def execVoiceStart (v : BitVec 8) (s : State) : Host.Outcome State Fault Refusal :=
  .next (s.voiceCommand v (Voice.start s.params))

/-- VOICE_RELEASE (R168). -/
def execVoiceRelease (v : BitVec 8) (s : State) : Host.Outcome State Fault Refusal :=
  .next (s.voiceCommand v Voice.release)

/-- VOICE_RETRIGGER (R169). -/
def execVoiceRetrigger (v : BitVec 8) (s : State) : Host.Outcome State Fault Refusal :=
  .next (s.voiceCommand v (Voice.retrigger s.params))

/-- VOICE_STOP (R170). -/
def execVoiceStop (v : BitVec 8) (s : State) : Host.Outcome State Fault Refusal :=
  .next (s.voiceCommand v Voice.stop)

end Sys2Proof.Machine
end

