-- ==== Sys2Proof/Machine/Registers.lean ====
section
/-! DEFINITION. Reading and writing the registers of the register space (10_state.md): the value each register
reads, the side effect of the two latching reads, and what a write to each register stores. -/

namespace Sys2Proof.Machine

open Sys2Proof.Config

/-- A field in the low bits of a bus word, reserved bits zero (R30). -/
def field {w : Nat} (b : BitVec w) : Word := b.setWidth 32

/-- The ACTIVE flags of a list of voices as bits, the first voice lowest. -/
def activeBits : List Voice → Nat
  | [] => 0
  | x :: xs => x.active.toNat + 2 * activeBits xs

/-- VACTIVE (R59). -/
def State.vactive (s : State) : Word := BitVec.ofNat 32 (activeBits s.voices.toList)

/-- ACTIVE_COUNT (R60). -/
def State.activeCount (s : State) : Word := BitVec.ofNat 32 (s.voices.toList.countP Voice.active)

/-- The value a global register reads (10_state.md section 2). CMD reads 0 (R32). -/
def readGlobal (s : State) : GReg → Word
  | .id => idValue
  | .cmd => 0
  | .ctrl => field (BitVec.ofBool s.params.en)
  | .status => s.statusWord
  | .vcap => field s.params.vcap
  | .pcap => field s.params.pcap
  | .masterGain => field s.params.masterGain
  | .vthresh => s.params.vthresh
  | .cutMin => field s.params.cutMin
  | .cutoff => field s.params.cutoff
  | .reso => field s.params.reso
  | .envDelay => field s.params.envDelay
  | .envAttack => field s.params.envAttack
  | .envDecay => field s.params.envDecay
  | .envSustain => field s.params.envSustain
  | .envRelease => field s.params.envRelease
  | .envOvershoot => field s.params.envOvershoot
  | .envMode => s.params.envMode.code
  | .vcaMode => s.params.vcaMode.code
  | .punchMix => field s.params.punchMix
  | .punchDrive => field s.params.punchDrive
  | .punchHpc => field s.params.punchHpc
  | .noiseSel => s.params.noiseSel.code
  | .noiseLevel => field s.params.noiseLevel
  | .lfoInc => s.params.lfoInc
  | .lfoPhase => s.lfoPhase
  | .move => field s.params.move
  | .frameCount => s.frameCount
  | .vactive => s.vactive
  | .activeCount => s.activeCount
  | .outL => s.outL.signExtend 32
  | .outR => s.outR.signExtend 32
  | .peakL => field s.telem.peakL
  | .peakR => field s.telem.peakR
  | .energyLLo => s.telem.energyL.extractLsb' 0 32
  | .energyLHi => s.telem.eshadowL
  | .energyRLo => s.telem.energyR.extractLsb' 0 32
  | .energyRHi => s.telem.eshadowR
  | .energyCount => s.telem.energyCount

/-- VSTAT: ACTIVE in bit 0, STAGE in bits 3:1 (R68). -/
def Voice.vstat (x : Voice) : Word := field (x.adsr.stage.code ++ BitVec.ofBool x.active)

/-- The value a voice register reads (R68 to R79). -/
def readVoice (x : Voice) : VReg → Word
  | .vstat => x.vstat
  | .vlevel => x.vlevel
  | .vdecay => x.vdecay
  | .vpan => field x.vpan
  | .vvel => x.vvel
  | .vpres => x.vpres
  | .vage => x.vage
  | .venv => field x.adsr.e
  | .vnstate => x.vnstate
  | .pinc p => x.pinc[p]
  | .pamp p => field x.pamp[p]
  | .phase p => x.phase[p]

/-- `ReadValue(reg)` (R160). -/
def readValue (s : State) : Reg → Word
  | .glob g => readGlobal s g
  | .modDepth d k => s.params.modDepth[depthIndex d k]
  | .voice v r => readVoice s.voices[v] r

/-- A read of ENERGY_L_LO latches the high word of ENERGY_L (R63). -/
def State.latchL (s : State) : State :=
  s.setTelem { s.telem with eshadowL := s.telem.energyL.extractLsb' 32 32 }

/-- A read of ENERGY_R_LO latches the high word of ENERGY_R (R64). -/
def State.latchR (s : State) : State :=
  s.setTelem { s.telem with eshadowR := s.telem.energyR.extractLsb' 32 32 }

/-- The side effect of reading a register: only the two energy low words have one (R108, R160). -/
def readEffect (s : State) (r : Reg) : State :=
  if r = .glob .energyLLo then s.latchL else if r = .glob .energyRLo then s.latchR else s

/-- The parameter registers after a write of `d` to a global register: its legal value is stored (R30, R33 to
R57). A register that is no parameter changes none. -/
def writeParam (p : Params) (g : GReg) (d : Word) : Params :=
  match g with
  | .ctrl => { p with en := d.getLsbD 0 }
  | .vcap => { p with vcap := legalU 5 0 NV d }
  | .pcap => { p with pcap := legalU 7 0 NP d }
  | .masterGain => { p with masterGain := legalU 18 0 131072 d }
  | .vthresh => { p with vthresh := d }
  | .cutMin => { p with cutMin := legalU 10 0 1023 d }
  | .cutoff => { p with cutoff := legalU 10 0 1023 d }
  | .reso => { p with reso := legalU 17 0 65536 d }
  | .envDelay => { p with envDelay := legalU 24 0 envLenMax d }
  | .envAttack => { p with envAttack := legalU 24 1 envLenMax d }
  | .envDecay => { p with envDecay := legalU 24 1 envLenMax d }
  | .envSustain => { p with envSustain := legalU 17 0 65536 d }
  | .envRelease => { p with envRelease := legalU 24 1 envLenMax d }
  | .envOvershoot => { p with envOvershoot := legalU 17 65536 81920 d }
  | .envMode => { p with envMode := legalCurve d }
  | .vcaMode => { p with vcaMode := legalResponse d }
  | .punchMix => { p with punchMix := legalU 17 0 65536 d }
  | .punchDrive => { p with punchDrive := legalU 21 65536 1048576 d }
  | .punchHpc => { p with punchHpc := legalU 16 0 65535 d }
  | .noiseSel => { p with noiseSel := legalColor d }
  | .noiseLevel => { p with noiseLevel := legalU 17 0 65536 d }
  | .lfoInc => { p with lfoInc := d }
  | .move => { p with move := legalU 17 0 65536 d }
  | .id | .cmd | .status | .lfoPhase | .frameCount | .vactive | .activeCount | .outL | .outR | .peakL | .peakR
  | .energyLLo | .energyLHi | .energyRLo | .energyRHi | .energyCount => p

/-- A voice after a write of `d` to one of its registers (R69 to R79). An RO register changes nothing (R106). -/
def writeVoice (x : Voice) (r : VReg) (d : Word) : Voice :=
  match r with
  | .vstat | .vage | .venv => x
  | .vlevel => { x with vlevel := d }
  | .vdecay => { x with vdecay := d }
  | .vpan => { x with vpan := legalU 17 0 65536 d }
  | .vvel => { x with vvel := legalS d }
  | .vpres => { x with vpres := legalS d }
  | .vnstate => { x with vnstate := legalSeed d }
  | .pinc p => { x with pinc := x.pinc.set p d }
  | .pamp p => { x with pamp := x.pamp.set p (legalU 16 0 65535 d) }
  | .phase p => { x with phase := x.phase.set p d }

/-- The twelve depths after a write of `d` to MOD_DEPTH[dst][src] (R66). -/
def writeDepth (p : Params) (dst : Fin 3) (src : Fin 4) (d : Word) : Params :=
  { p with modDepth := p.modDepth.set (depthIndex dst src) (legalS d) }

/-- LFO_PHASE stores any written word (R56). -/
def State.setLfoPhase (s : State) (d : Word) : State := { s with lfoPhase := d }

/-- A write of `d` to a register that is not RO: CMD executes a command, STATUS clears flags, and any other
stores its legal value (R161). -/
def writeReg (s : State) (r : Reg) (d : Word) : State :=
  match r with
  | .glob .cmd => s.command d
  | .glob .status => s.clearStatus d
  | .glob .lfoPhase => s.setLfoPhase d
  | .glob g => s.setParams (writeParam s.params g d)
  | .modDepth dst src => s.setParams (writeDepth s.params dst src d)
  | .voice v r => s.updVoice v (fun x => writeVoice x r d)

end Sys2Proof.Machine
end

