-- ==== Sys2Proof/Machine/Bus.lean ====
section
/-! DEFINITION. The three host operations RD, WR and TICK (40_host_ops.md section 1). -/

namespace Sys2Proof.Machine

/-- The register an access reaches: none when the address is misaligned or unmapped (R104, R105). -/
def accessReg (a : Addr) : Option Reg := if misaligned a then none else decodeAddr a

/-- The value an RD of `a` returns: 0 when rejected (R160). -/
def readData (a : Addr) (s : State) : Word :=
  match accessReg a with
  | none => 0
  | some r => readValue s r

/-- The state an RD of `a` leaves, its returned value apart: BUSERR when rejected, else the read's side effect
(R104, R105, R160). -/
def readState (a : Addr) (s : State) : State :=
  match accessReg a with
  | none => s.flagBusErr
  | some r => readEffect s r

/-- The state a WR of `d` to `a` leaves: BUSERR when it is misaligned, unmapped or to an RO register (R161). -/
def writeState (a : Addr) (d : Word) (s : State) : State :=
  match accessReg a with
  | none => s.flagBusErr
  | some r => if r.readOnly then s.flagBusErr else writeReg s r d

/-- The byte that a bus bridge sees on lane `k` of a word: bits 7:0 are lane 0, at the lowest byte address
(R107). -/
def laneByte (w : Word) (k : Fin 4) : BitVec 8 := w.extractLsb' (8 * k.val) 8

/-- RD (R160). -/
def execRd (a : Addr) (s : State) : Host.Outcome State Fault Refusal :=
  .next ((readState a s).returnWord (readData a s))

/-- WR (R161). -/
def execWr (a : Addr) (d : Word) (s : State) : Host.Outcome State Fault Refusal := .next (writeState a d s)

/-- TICK (R162). -/
def execTick (s : State) : Host.Outcome State Fault Refusal := .next s.frame

end Sys2Proof.Machine
end

