-- ==== Sys2Proof/Machine/Dispatch.lean ====
section
/-! DEFINITION. The dispatch: one arm for each row of spec/opcode_table.json. -/

namespace Sys2Proof.Machine

/-- The meaning of each instruction (R160 to R170). -/
def exec (i : Instr) (s : State) : Host.Outcome State Fault Refusal :=
  match i with
  | .rd a => Sys2Proof.Machine.execRd a s
  | .wr a d => Sys2Proof.Machine.execWr a d s
  | .tick => Sys2Proof.Machine.execTick s
  | .nop => Sys2Proof.Machine.execNop s
  | .prepare => Sys2Proof.Machine.execPrepare s
  | .telemClear => Sys2Proof.Machine.execTelemClear s
  | .voiceStart v => Sys2Proof.Machine.execVoiceStart v s
  | .voiceRelease v => Sys2Proof.Machine.execVoiceRelease v s
  | .voiceRetrigger v => Sys2Proof.Machine.execVoiceRetrigger v s
  | .voiceStop v => Sys2Proof.Machine.execVoiceStop v s

end Sys2Proof.Machine
end

