-- ==== Sys2Proof/Machine/Fetch.lean ====
section
/-! DEFINITION. Taking the next operation word from the stream of the two agents (R17, R86, R113). -/

namespace Sys2Proof.Machine

/-- The next operation word, if the environment has one waiting. -/
def State.nextWord (s : State) : Option How := s.stream.head?

/-- The state once the next operation word has been taken. -/
def State.consume (s : State) : State := { s with stream := s.stream.tail }

/-- The state with an operation word put in front of the stream. -/
def State.pushWord (s : State) (w : How) : State := { s with stream := w :: s.stream }

/-- The state with the operation word of a table number put in front of the stream. -/
def State.pushTableWord (s : State) (nbits w : Nat) : State := s.pushWord (BitVec.ofNat 50 (w % 2 ^ nbits))

end Sys2Proof.Machine
end

