-- ==== Sys2Proof/Machine/Step.lean ====
section
/-! DEFINITION. One step of the block: the next operation of the host or the sample clock takes effect in full
(R17, R110, R113). -/

namespace Sys2Proof.Machine

/-- Take the next operation word and run it; a word of KIND 11 is refused (R131). With no operation waiting the
block holds its state, since nothing but an operation changes it (log entry 1). -/
def step (s : State) : Host.Outcome State Fault Refusal :=
  match s.nextWord with
  | none => .next s
  | some w =>
    match decode w with
    | .error .reservedKind => .refused .reservedKind
    | .ok i => exec i s.consume

/-- `s` with the operation word of a table number as the very next one (log entry 1). -/
def State.withFetchWord (s : State) (nbits w : Nat) : State := s.pushTableWord nbits w

end Sys2Proof.Machine
end

