-- ==== Sys2Proof/Safety.lean ====
section
/-! DEFINITION. What the claims call a legal state: every register holds a value its rule allows, and the
invariants of R85 and R255 hold. -/

namespace Sys2Proof.Machine

open Sys2Proof.Config

/-- A signed Q16 register in [-65536, 65536] (R66, R73, R74). -/
def legalSigned (w : Word) : Prop := -65536 ≤ w.toInt ∧ w.toInt ≤ 65536

/-- The parameter registers are in the ranges of 10_state.md. The fields not named here have no illegal
value. -/
structure Params.Legal (p : Params) : Prop where
  vcap : p.vcap.toNat ≤ 16
  pcap : p.pcap.toNat ≤ 64
  masterGain : p.masterGain.toNat ≤ 131072
  reso : p.reso.toNat ≤ 65536
  envAttack : 1 ≤ p.envAttack.toNat
  envDecay : 1 ≤ p.envDecay.toNat
  envSustain : p.envSustain.toNat ≤ 65536
  envRelease : 1 ≤ p.envRelease.toNat
  envOvershootLo : 65536 ≤ p.envOvershoot.toNat
  envOvershootHi : p.envOvershoot.toNat ≤ 81920
  punchMix : p.punchMix.toNat ≤ 65536
  punchDriveLo : 65536 ≤ p.punchDrive.toNat
  punchDriveHi : p.punchDrive.toNat ≤ 1048576
  noiseLevel : p.noiseLevel.toNat ≤ 65536
  move : p.move.toNat ≤ 65536
  modDepth : ∀ k : Fin ND, legalSigned p.modDepth[k]

/-- The levels of the envelope generator are in [0, 81920] (R255). -/
structure Adsr.Legal (a : Adsr) : Prop where
  e : a.e.toNat ≤ 81920
  sl : a.sl.toNat ≤ 81920

/-- A voice's registers are in range, its noise state is nonzero (R76), and it is active exactly when its
envelope is not Idle (R85). -/
structure Voice.Legal (x : Voice) : Prop where
  vpan : x.vpan.toNat ≤ 65536
  vvel : legalSigned x.vvel
  vpres : legalSigned x.vpres
  vnstate : x.vnstate ≠ 0
  adsr : x.adsr.Legal
  activeIff : x.active = true ↔ x.adsr.stage ≠ .idle

/-- The peaks are in [0, 2^23] (R62). -/
structure Telem.Legal (t : Telem) : Prop where
  peakL : t.peakL.toNat ≤ 8388608
  peakR : t.peakR.toNat ≤ 8388608

/-- The legal states of the block. -/
structure State.Legal (s : State) : Prop where
  params : s.params.Legal
  voices : ∀ v : Fin NV, (s.voices[v]).Legal
  telem : s.telem.Legal

end Sys2Proof.Machine
end

