-- ==== Sys2Proof/Certificates/Slice0/Obligations.lean ====
section
/-! DEFINITION. The statements for the provers, and the tables of the spec that some of them compare the machine
with. Each docstring says which rule a statement formalises, or which log entry it rests on. -/

namespace Sys2Proof.Claims

open Sys2Proof.Config Sys2Proof.Machine

/-- The address of each global register, in the numbers of 10_state.md section 2 (R31 to R65). -/
def globalAddr : GReg → Nat
  | .id => 0x0000 | .cmd => 0x0004 | .ctrl => 0x0008 | .status => 0x000C
  | .vcap => 0x0010 | .pcap => 0x0014 | .masterGain => 0x0018 | .vthresh => 0x001C
  | .cutMin => 0x0020 | .cutoff => 0x0024 | .reso => 0x0028 | .envDelay => 0x002C
  | .envAttack => 0x0030 | .envDecay => 0x0034 | .envSustain => 0x0038 | .envRelease => 0x003C
  | .envOvershoot => 0x0040 | .envMode => 0x0044 | .vcaMode => 0x0048 | .punchMix => 0x004C
  | .punchDrive => 0x0050 | .punchHpc => 0x0054 | .noiseSel => 0x0058 | .noiseLevel => 0x005C
  | .lfoInc => 0x0060 | .lfoPhase => 0x0064 | .move => 0x0068 | .frameCount => 0x0070
  | .vactive => 0x0074 | .activeCount => 0x0078 | .outL => 0x007C | .outR => 0x0080
  | .peakL => 0x0084 | .peakR => 0x0088 | .energyLLo => 0x008C | .energyLHi => 0x0090
  | .energyRLo => 0x0094 | .energyRHi => 0x0098 | .energyCount => 0x009C

/-- The offset of each register in its voice block, in the numbers of the table of R67. -/
def voiceOffset : VReg → Nat
  | .vstat => 0x000 | .vlevel => 0x004 | .vdecay => 0x008 | .vpan => 0x00C
  | .vvel => 0x010 | .vpres => 0x014 | .vage => 0x018 | .venv => 0x01C
  | .vnstate => 0x020
  | .pinc p => 0x100 + 4 * p.val | .pamp p => 0x200 + 4 * p.val | .phase p => 0x300 + 4 * p.val

/-- The address of each register by the tables of the spec: MOD_DEPTH by R66, a voice's registers by R67. -/
def tableAddr : Reg → Nat
  | .glob g => globalAddr g
  | .modDepth d k => 0x0100 + 4 * (4 * d.val + k.val)
  | .voice v r => 0x1000 + 0x400 * v.val + voiceOffset r

/-- The bus address of a register, by the tables of the spec. -/
def busAddr (r : Reg) : Addr := BitVec.ofNat 16 (tableAddr r)

/-- The holes of the register map, by address (R101). -/
def Unmapped (a : Addr) : Prop :=
  a.toNat = 0x006C ∨ (0x00A0 ≤ a.toNat ∧ a.toNat < 0x0100) ∨ (0x0130 ≤ a.toNat ∧ a.toNat < 0x1000) ∨
    (0x1000 ≤ a.toNat ∧ a.toNat < 0x5000 ∧ 0x024 ≤ a.toNat % 0x400 ∧ a.toNat % 0x400 < 0x100) ∨ 0x5000 ≤ a.toNat

/-- The reset value that each register reads, from the table of R390. -/
def resetWord : Reg → Word
  | .glob .id => 0x414F4201
  | .glob .vcap => 16
  | .glob .pcap => 64
  | .glob .masterGain => 65536
  | .glob .vthresh => 214748
  | .glob .cutMin => 56
  | .glob .cutoff => 1023
  | .glob .envAttack => 480
  | .glob .envDecay => 4800
  | .glob .envSustain => 45875
  | .glob .envRelease => 9600
  | .glob .envOvershoot => 72090
  | .glob .punchDrive => 262144
  | .glob .punchHpc => 57495
  | .glob .move => 65536
  | .voice _ .vpan => 32768
  | .voice v .vnstate => BitVec.ofNat 32 (0x2545F491 + v.val * 0x9E3779B9)
  | _ => 0

/-- The value `clamp(d, lo, hi)` of an unsigned word, as a register reads it back (R30). -/
def clampWord (lo hi : Nat) (d : Word) : Word := BitVec.ofNat 32 (min (max d.toNat lo) hi)

/-- The value `clamp(s32(d), -65536, 65536)` as a two's complement word (R66, R73, R74). -/
def clampSigned (d : Word) : Word := BitVec.ofInt 32 (min (max d.toInt (-65536)) 65536)

/-- What a register that a WR can store to reads back after a WR of `d`, from the clamp columns of the tables of
10_state.md sections 2 to 5; none for CMD, STATUS and the RO registers. -/
def storedWord (r : Reg) (d : Word) : Option Word :=
  match r with
  | .glob .ctrl => some (d &&& 1)
  | .glob .vcap => some (clampWord 0 16 d)
  | .glob .pcap => some (clampWord 0 64 d)
  | .glob .masterGain => some (clampWord 0 131072 d)
  | .glob .vthresh => some d
  | .glob .cutMin => some (clampWord 0 1023 d)
  | .glob .cutoff => some (clampWord 0 1023 d)
  | .glob .reso => some (clampWord 0 65536 d)
  | .glob .envDelay => some (clampWord 0 16777215 d)
  | .glob .envAttack => some (clampWord 1 16777215 d)
  | .glob .envDecay => some (clampWord 1 16777215 d)
  | .glob .envSustain => some (clampWord 0 65536 d)
  | .glob .envRelease => some (clampWord 1 16777215 d)
  | .glob .envOvershoot => some (clampWord 65536 81920 d)
  | .glob .envMode => some (d &&& 1)
  | .glob .vcaMode => some (d &&& 1)
  | .glob .punchMix => some (clampWord 0 65536 d)
  | .glob .punchDrive => some (clampWord 65536 1048576 d)
  | .glob .punchHpc => some (clampWord 0 65535 d)
  | .glob .noiseSel => some (if d &&& 3 = 3 then 0 else d &&& 3)
  | .glob .noiseLevel => some (clampWord 0 65536 d)
  | .glob .lfoInc => some d
  | .glob .lfoPhase => some d
  | .glob .move => some (clampWord 0 65536 d)
  | .modDepth _ _ => some (clampSigned d)
  | .voice _ .vlevel => some d
  | .voice _ .vdecay => some d
  | .voice _ .vpan => some (clampWord 0 65536 d)
  | .voice _ .vvel => some (clampSigned d)
  | .voice _ .vpres => some (clampSigned d)
  | .voice _ .vnstate => some (if d = 0 then 1 else d)
  | .voice _ (.pinc _) => some d
  | .voice _ (.pamp _) => some (clampWord 0 65535 d)
  | .voice _ (.phase _) => some d
  | _ => none

/-- The parameter registers with the number each reads, from the fields that the frame uses (R33 to R57). The codes of
ENV_MODE, VCA_MODE and NOISE_SEL are those of R48, R49 and R53. -/
def paramFields (p : Params) : List (GReg × Nat) :=
  [(.ctrl, p.en.toNat), (.vcap, p.vcap.toNat), (.pcap, p.pcap.toNat), (.masterGain, p.masterGain.toNat),
    (.vthresh, p.vthresh.toNat), (.cutMin, p.cutMin.toNat), (.cutoff, p.cutoff.toNat), (.reso, p.reso.toNat),
    (.envDelay, p.envDelay.toNat), (.envAttack, p.envAttack.toNat), (.envDecay, p.envDecay.toNat),
    (.envSustain, p.envSustain.toNat), (.envRelease, p.envRelease.toNat), (.envOvershoot, p.envOvershoot.toNat),
    (.envMode, match p.envMode with | .exponential => 0 | .linear => 1),
    (.vcaMode, match p.vcaMode with | .linear => 0 | .squared => 1), (.punchMix, p.punchMix.toNat),
    (.punchDrive, p.punchDrive.toNat), (.punchHpc, p.punchHpc.toNat),
    (.noiseSel, match p.noiseSel with | .white => 0 | .pink => 1 | .mauve => 2),
    (.noiseLevel, p.noiseLevel.toNat), (.lfoInc, p.lfoInc.toNat), (.move, p.move.toNat)]

/-- The read-only registers, as R106 lists them. -/
def ReadOnlyReg (r : Reg) : Prop :=
  r = .glob .id ∨ r = .glob .frameCount ∨ r = .glob .vactive ∨ r = .glob .activeCount ∨ r = .glob .outL ∨
    r = .glob .outR ∨ r = .glob .peakL ∨ r = .glob .peakR ∨ r = .glob .energyLLo ∨ r = .glob .energyLHi ∨
    r = .glob .energyRLo ∨ r = .glob .energyRHi ∨ r = .glob .energyCount ∨
    ∃ v, r = .voice v .vstat ∨ r = .voice v .vage ∨ r = .voice v .venv

/-- The reserved command words (R137). -/
def ReservedCommand (w : Word) : Prop :=
  w.extractLsb' 16 16 ≠ 0 ∨ (0x03 ≤ (w.extractLsb' 0 8).toNat ∧ (w.extractLsb' 0 8).toNat ≤ 0x0F) ∨
    0x14 ≤ (w.extractLsb' 0 8).toNat ∨
    (0x10 ≤ (w.extractLsb' 0 8).toNat ∧ (w.extractLsb' 0 8).toNat ≤ 0x13 ∧ 16 ≤ (w.extractLsb' 8 8).toNat)

/-- A section with all values zero. -/
def zeroSection : Section := ⟨0, 0, 0, 0, 0⟩

/-- The filter, punch and noise-filter state with all values zero. -/
def zeroPath : SignalPath := ⟨zeroSection, zeroSection, 0, 0, ⟨0, 0, 0, 0, 0, 0, 0⟩, 0, 0⟩

/-- The telemetry accumulators with all values zero. -/
def zeroTelem : Telem := ⟨0, 0, 0, 0, 0, 0, 0⟩

/-- The decayed level of a voice: `max(VLEVEL - VDECAY, 0)` as a word (R216). -/
def loweredLevel (x : Voice) : Word := if x.vdecay.toNat ≤ x.vlevel.toNat then x.vlevel - x.vdecay else 0

/-- Voice `v` is processed in a frame (R193). -/
def Processed (s : State) (v : Fin NV) : Prop :=
  s.params.en = true ∧ v.val < s.params.vcap.toNat ∧ (s.voices[v]).active = true

/-- `rnd(x)`, rounding half away from zero (R16). -/
noncomputable def roundAway (x : ℝ) : ℤ := if x < 0 then -⌊-x + 1 / 2⌋ else ⌊x + 1 / 2⌋

/-- The contributions of voice `v` to a frame from state `s`. -/
def contribution (s : State) (v : Fin NV) : Turn := voiceTurn s.params (lfoValue s.lfoPhase) v.val s.voices[v]

end Sys2Proof.Claims

section

open Sys2Proof Sys2Proof.Config Sys2Proof.Machine Sys2Proof.Claims

/-! Encoding -/

/-- R142: the four worked encodings, both ways. -/
def Obligations.WorkedEncodings : Prop :=
  (encode (.wr 0x0008 1) = 0x1000800000001 ∧ decode 0x1000800000001 = .ok (.wr 0x0008 1)) ∧
    (encode (.voiceStart 3) = 0x1000400000310 ∧ decode 0x1000400000310 = .ok (.voiceStart 3)) ∧
    (encode (.rd 0x0074) = 0x0007400000000 ∧ decode 0x0007400000000 = .ok (.rd 0x0074)) ∧
    (encode .tick = 0x2000000000000 ∧ decode 0x2000000000000 = .ok .tick)

/-- R130, R133, R135, R136: no operand bit of any encoding is dropped. -/
def Obligations.DecodeEncodeRoundTrip : Prop := ∀ i : Instr, i.wf = true → decode (encode i) = .ok i

/-- R130, R138, R143: the decoder answers only well-formed instructions, and a WR word that is not a global
command with a nonzero VOICE field is exactly the encoding of what it decodes to. -/
def Obligations.DecodedInstructionReencodes : Prop :=
  ∀ (w : How) (i : Instr), decode w = .ok i →
    i.wf = true ∧
      (w.kind = 1 → (w.addr = 4 → cmdVoice w.data = 0 ∨ cmdRsvd w.data ≠ 0 ∨ 0x03 ≤ (cmdOp w.data).toNat) →
        encode i = w)

/-- R143 and spec/opcode_table.json: every word that matches a row's mask and match decodes to the row's
operation, with the operands the row's fields give; a WR row applies where no command row matches. -/
def Obligations.DecodeFollowsTheTable : Prop :=
  ∀ w : How,
    (w &&& 0x3000000000000 = 0x0 → decode w = .ok (.rd (w.extractLsb' 32 16))) ∧
    (w &&& 0x3000000000000 = 0x2000000000000 → decode w = .ok .tick) ∧
    (w &&& 0x3ffffffff00ff = 0x1000400000000 → decode w = .ok .nop) ∧
    (w &&& 0x3ffffffff00ff = 0x1000400000001 → decode w = .ok .prepare) ∧
    (w &&& 0x3ffffffff00ff = 0x1000400000002 → decode w = .ok .telemClear) ∧
    (w &&& 0x3ffffffff00ff = 0x1000400000010 → decode w = .ok (.voiceStart (w.extractLsb' 8 8))) ∧
    (w &&& 0x3ffffffff00ff = 0x1000400000011 → decode w = .ok (.voiceRelease (w.extractLsb' 8 8))) ∧
    (w &&& 0x3ffffffff00ff = 0x1000400000012 → decode w = .ok (.voiceRetrigger (w.extractLsb' 8 8))) ∧
    (w &&& 0x3ffffffff00ff = 0x1000400000013 → decode w = .ok (.voiceStop (w.extractLsb' 8 8))) ∧
    (w &&& 0x3000000000000 = 0x1000000000000 →
      (∀ op ∈ [0x00, 0x01, 0x02, 0x10, 0x11, 0x12, 0x13], w &&& 0x3ffffffff00ff ≠ 0x1000400000000 + op) →
      decode w = .ok (.wr (w.extractLsb' 32 16) (w.extractLsb' 0 32)))

/-- R131: KIND 00 is RD, 10 is TICK, 01 runs as the WR of its fields, and 11 is refused. -/
def Obligations.KindSelectsOperation : Prop :=
  ∀ w : How,
    (w.kind = 0 → ∃ a, decode w = .ok (.rd a)) ∧
    (w.kind = 1 → ∃ i, decode w = .ok i ∧ ∀ s, exec i s = exec (.wr w.addr w.data) s) ∧
    (w.kind = 2 → decode w = .ok .tick) ∧
    (w.kind = 3 →
      decode w = .error .reservedKind ∧ ∀ s rest, s.stream = w :: rest → step s = .refused .reservedKind)

/-! Steps -/

/-- R17, R113: a step takes the next operation word and runs the instruction it decodes to. -/
def Obligations.StepRunsDecodedInstruction : Prop :=
  ∀ (s : State) (w : How) (rest : List How) (i : Instr),
    s.stream = w :: rest → decode w = .ok i → step s = exec i { s with stream := rest }

/-- The model's choice, log entry 1: with no operation waiting a step holds the state, and an operation word
placed by withFetchWord is the one the next step runs. -/
def Obligations.StreamDrivesSteps : Prop :=
  (∀ s : State, s.stream = [] → step s = .next s) ∧
    ∀ (s : State) (nbits w : Nat) (i : Instr),
      decodeTableWord nbits w = some i → step (s.withFetchWord nbits w) = exec i s

/-- R360: no operation stops the block; the operations still to come are untouched and the two observed
sequences of R18 only grow. -/
def Obligations.EveryOperationCompletes : Prop :=
  ∀ (i : Instr) (s : State),
    ∃ t, exec i s = .next t ∧ t.stream = s.stream ∧ s.reads <+: t.reads ∧ s.frames <+: t.frames

/-! Reset and invariants -/

/-- R390: every register reads its reset value after hardware reset, from any earlier state, and the internal
state of R391 is clear. -/
def Obligations.ResetValues : Prop :=
  (∀ r : Reg, readValue State.reset r = resetWord r) ∧
    ∀ s : State,
      (∀ r : Reg, readValue s.hardwareReset r = resetWord r) ∧ s.hardwareReset.telem = zeroTelem ∧
        ∀ v : Fin NV, (s.hardwareReset.voices[v]).active = false ∧
          (s.hardwareReset.voices[v]).adsr = ⟨.idle, 0, 0, 0⟩ ∧ (s.hardwareReset.voices[v]).path = zeroPath

/-- The reset state is legal: every register is in its range and the invariants of R85 and R255 hold. -/
def Obligations.ResetIsLegal : Prop := State.reset.Legal

/-- R30, R76, R85, R255: every step keeps every register in its range, the noise states nonzero, the levels in
[0, 81920], and a voice active exactly when its stage is not Idle. -/
def Obligations.StepKeepsLegal : Prop := ∀ s t : State, s.Legal → step s = .next t → t.Legal

/-- R85: a voice is active exactly when its stage is not Idle, at reset and after every step. -/
def Obligations.ActiveExactlyWhenNotIdle : Prop :=
  (∀ v : Fin NV, (State.reset.voices[v]).active = true ↔ (State.reset.voices[v]).adsr.stage ≠ .idle) ∧
    ∀ s t : State,
      (∀ v : Fin NV, (s.voices[v]).active = true ↔ (s.voices[v]).adsr.stage ≠ .idle) → step s = .next t →
        ∀ v : Fin NV, (t.voices[v]).active = true ↔ (t.voices[v]).adsr.stage ≠ .idle

/-! RD and WR -/

/-- R104: a misaligned RD returns 0, a misaligned WR changes no register, and each flags BUSERR. -/
def Obligations.MisalignedAccessRejected : Prop :=
  ∀ (a : Addr) (d : Word) (s : State), a.extractLsb' 0 2 ≠ 0 →
    exec (.rd a) s = .next { s with busErr := true, reads := s.reads ++ [0] } ∧
      exec (.wr a d) s = .next { s with busErr := true }

/-- R105: an aligned access to a hole of the map is rejected alike. -/
def Obligations.UnmappedAccessRejected : Prop :=
  ∀ (a : Addr) (d : Word) (s : State), a.extractLsb' 0 2 = 0 → Unmapped a →
    exec (.rd a) s = .next { s with busErr := true, reads := s.reads ++ [0] } ∧
      exec (.wr a d) s = .next { s with busErr := true }

/-- R106: a WR to an RO register changes nothing and flags BUSERR, and an RD of CMD returns 0 with no flag. -/
def Obligations.ReadOnlyWriteRejected : Prop :=
  (∀ (r : Reg) (d : Word) (s : State), ReadOnlyReg r →
      exec (.wr (busAddr r) d) s = .next { s with busErr := true }) ∧
    ∀ s : State, exec (.rd (busAddr (.glob .cmd))) s = .next { s with reads := s.reads ++ [0] }

/-- R31 to R67, R101, R102: an access reaches a register exactly at the address that the spec's tables give it, and
every aligned address outside the holes names a register. -/
def Obligations.AddressNamesOneRegister : Prop :=
  (∀ (a : Addr) (r : Reg), accessReg a = some r ↔ a.toNat = tableAddr r) ∧ (∀ r : Reg, r.addr = tableAddr r) ∧
    ∀ a : Addr, a.extractLsb' 0 2 = 0 → ¬Unmapped a → ∃ r, accessReg a = some r

/-- R108, R160: an RD of any register completes, returns its value, and changes nothing but the energy latch of
the two energy low words. -/
def Obligations.ReadReturnsValueAndOnlyLatches : Prop :=
  ∀ (r : Reg) (s : State),
    exec (.rd (busAddr r)) s =
      .next
        { s with
          reads := s.reads ++ [readValue s r]
          telem :=
            { s.telem with
              eshadowL := if r = .glob .energyLLo then s.telem.energyL.extractLsb' 32 32 else s.telem.eshadowL
              eshadowR := if r = .glob .energyRLo then s.telem.energyR.extractLsb' 32 32 else s.telem.eshadowR } }

/-- R63, R64, R398: reading an energy LO and then its HI gives one 64-bit value, however many ticks fall
between the two reads. -/
def Obligations.EnergyReadIsConsistent : Prop :=
  ∀ (s : State) (n : Nat),
    (∀ u : State, exec .tick u = .next u.frame) ∧
    (∃ t u lo hi, exec (.rd 0x008C) s = .next t ∧ exec (.rd 0x0090) (State.frame^[n] t) = .next u ∧
      u.reads = s.reads ++ [lo, hi] ∧ hi ++ lo = s.telem.energyL) ∧
    (∃ t u lo hi, exec (.rd 0x0094) s = .next t ∧ exec (.rd 0x0098) (State.frame^[n] t) = .next u ∧
      u.reads = s.reads ++ [lo, hi] ∧ hi ++ lo = s.telem.energyR)

/-- R31 to R79: what every register reads of the state. ID and CMD read their constants. -/
def Obligations.RegistersReadState : Prop :=
  ∀ s : State,
    readValue s (.glob .id) = 0x414F4201 ∧ readValue s (.glob .cmd) = 0 ∧
    (readValue s (.glob .status)).toNat = s.cmdErr.toNat + 2 * s.busErr.toNat ∧
    readValue s (.glob .frameCount) = s.frameCount ∧ readValue s (.glob .lfoPhase) = s.lfoPhase ∧
    (readValue s (.glob .outL)).toInt = s.outL.toInt ∧ (readValue s (.glob .outR)).toInt = s.outR.toInt ∧
    (readValue s (.glob .peakL)).toNat = s.telem.peakL.toNat ∧
    (readValue s (.glob .peakR)).toNat = s.telem.peakR.toNat ∧
    (readValue s (.glob .energyLLo)).toNat = s.telem.energyL.toNat % 2 ^ 32 ∧
    (readValue s (.glob .energyRLo)).toNat = s.telem.energyR.toNat % 2 ^ 32 ∧
    readValue s (.glob .energyLHi) = s.telem.eshadowL ∧ readValue s (.glob .energyRHi) = s.telem.eshadowR ∧
    readValue s (.glob .energyCount) = s.telem.energyCount ∧
    (∀ v : Fin NV, (readValue s (.glob .vactive)).getLsbD v.val = (s.voices[v]).active) ∧
    (readValue s (.glob .vactive)).toNat < 65536 ∧
    (readValue s (.glob .activeCount)).toNat =
      (Finset.univ.filter fun v : Fin NV => (s.voices[v]).active = true).card ∧
    (∀ c ∈ paramFields s.params, (readValue s (.glob c.1)).toNat = c.2) ∧
    (∀ (d : Fin 3) (k : Fin 4) (i : Fin ND), i.val = 4 * d.val + k.val →
      readValue s (.modDepth d k) = s.params.modDepth[i]) ∧
    ∀ v : Fin NV,
      (∃ code : Nat,
        (readValue s (.voice v .vstat)).toNat = (s.voices[v]).active.toNat + 2 * code ∧
          ((s.voices[v]).adsr.stage, code) ∈
            [(Stage.idle, 0), (.delay, 1), (.attack, 2), (.decay, 3), (.sustain, 4), (.release, 5)]) ∧
      readValue s (.voice v .vlevel) = (s.voices[v]).vlevel ∧
      readValue s (.voice v .vdecay) = (s.voices[v]).vdecay ∧
      (readValue s (.voice v .vpan)).toNat = (s.voices[v]).vpan.toNat ∧
      readValue s (.voice v .vvel) = (s.voices[v]).vvel ∧ readValue s (.voice v .vpres) = (s.voices[v]).vpres ∧
      readValue s (.voice v .vage) = (s.voices[v]).vage ∧
      (readValue s (.voice v .venv)).toNat = (s.voices[v]).adsr.e.toNat ∧
      readValue s (.voice v .vnstate) = (s.voices[v]).vnstate ∧
      ∀ p : Fin NP,
        readValue s (.voice v (.pinc p)) = (s.voices[v]).pinc[p] ∧
        (readValue s (.voice v (.pamp p))).toNat = ((s.voices[v]).pamp[p]).toNat ∧
        readValue s (.voice v (.phase p)) = (s.voices[v]).phase[p]

/-- R30, R133, R161: a WR to a register that stores completes; the register then reads its legal value, every
other register reads as before, and no flag and no internal state changes. -/
def Obligations.WriteStoresLegalValueOnly : Prop :=
  ∀ (r : Reg) (d w : Word) (s : State), storedWord r d = some w →
    ∃ t, exec (.wr (busAddr r) d) s = .next t ∧ readValue t r = w ∧
      (∀ q : Reg, q ≠ r → readValue t q = readValue s q) ∧
      t.telem = s.telem ∧ t.stream = s.stream ∧ t.reads = s.reads ∧ t.frames = s.frames ∧
      ∀ v : Fin NV, (t.voices[v]).path = (s.voices[v]).path ∧ (t.voices[v]).adsr = (s.voices[v]).adsr

/-- R34: a WR to STATUS clears the flags whose bits are one, leaves the others, and changes nothing else. -/
def Obligations.StatusWriteClearsOnes : Prop :=
  ∀ (d : Word) (s : State),
    exec (.wr (busAddr (.glob .status)) d) s =
      .next { s with cmdErr := s.cmdErr && !d.getLsbD 0, busErr := s.busErr && !d.getLsbD 1 }

/-- R109: a second equal WR to anything but CMD has no further effect. -/
def Obligations.RepeatedWriteHasOneEffect : Prop :=
  ∀ (a : Addr) (d : Word) (s t : State), a ≠ 0x0004 → exec (.wr a d) s = .next t → exec (.wr a d) t = .next t

/-! Commands -/

/-- R137: each reserved command word, as a WR to CMD and as the voice command it decodes to, has no effect but to
set CMDERR. -/
def Obligations.ReservedCommandRejected : Prop :=
  (∀ (w : Word) (s : State), ReservedCommand w → exec (.wr 0x0004 w) s = .next { s with cmdErr := true }) ∧
    ∀ (v : BitVec 8) (s : State), 16 ≤ v.toNat →
      exec (.voiceStart v) s = .next { s with cmdErr := true } ∧
      exec (.voiceRelease v) s = .next { s with cmdErr := true } ∧
      exec (.voiceRetrigger v) s = .next { s with cmdErr := true } ∧
      exec (.voiceStop v) s = .next { s with cmdErr := true }

/-- R138, R143, R163: a WR to CMD of a command's word is that command, with any VOICE field for a global one. -/
def Obligations.CommandWordRunsItsCommand : Prop :=
  ∀ (v : BitVec 8) (s : State),
    exec (.wr 0x0004 (packCommand v 0x00)) s = exec .nop s ∧
    exec (.wr 0x0004 (packCommand v 0x01)) s = exec .prepare s ∧
    exec (.wr 0x0004 (packCommand v 0x02)) s = exec .telemClear s ∧
    exec (.wr 0x0004 (packCommand v 0x10)) s = exec (.voiceStart v) s ∧
    exec (.wr 0x0004 (packCommand v 0x11)) s = exec (.voiceRelease v) s ∧
    exec (.wr 0x0004 (packCommand v 0x12)) s = exec (.voiceRetrigger v) s ∧
    exec (.wr 0x0004 (packCommand v 0x13)) s = exec (.voiceStop v) s

/-- R164: NOP changes no state, whatever its VOICE field. -/
def Obligations.NopChangesNothing : Prop :=
  ∀ (v : BitVec 8) (s : State), exec .nop s = .next s ∧ exec (.wr 0x0004 (packCommand v 0x00)) s = .next s

/-- R165, R394: PREPARE clears the processing state and keeps every host-written register and STATUS; right
after hardware reset it changes nothing. -/
def Obligations.PrepareClearsProcessingState : Prop :=
  exec .prepare State.reset = .next State.reset ∧ ∀ s : State, ∃ t, exec .prepare s = .next t ∧
    t = { s with
          voices := t.voices, lfoPhase := 0, frameCount := 0, outL := 0, outR := 0, telem := zeroTelem } ∧
    ∀ v : Fin NV, t.voices[v] =
      { s.voices[v] with
        active := false
        adsr := ⟨.idle, 0, 0, 0⟩
        vage := 0
        path := zeroPath
        vnstate := BitVec.ofNat 32 (0x2545F491 + v.val * 0x9E3779B9) }

/-- R166: TELEM_CLEAR clears the peaks, the energies, their latches and ENERGY_COUNT, and nothing else. -/
def Obligations.TelemClearClearsTelemetry : Prop :=
  ∀ s : State, exec .telemClear s = .next { s with telem := zeroTelem }

/-- R167: VOICE_START makes the voice active from level 0 in Delay or Attack, clears its age and its filter,
punch and noise-filter state, keeps VNSTATE and the host-written registers, and touches nothing else. -/
def Obligations.VoiceStartStartsVoice : Prop :=
  ∀ (v : BitVec 8) (s : State) (h : v.toNat < NV), ∃ t, exec (.voiceStart v) s = .next t ∧
    t = { s with voices := t.voices } ∧
    (∀ w : Fin NV, w.val ≠ v.toNat → t.voices[w] = s.voices[w]) ∧
    t.voices[(⟨v.toNat, h⟩ : Fin NV)] =
      { s.voices[(⟨v.toNat, h⟩ : Fin NV)] with
        active := true
        vage := 0
        path := zeroPath
        adsr := ⟨if s.params.envDelay = 0 then .attack else .delay, 0, 0, 0⟩ }

/-- R168: VOICE_RELEASE puts an active voice in Release from its level and leaves an inactive one. -/
def Obligations.VoiceReleaseReleasesActiveVoice : Prop :=
  ∀ (v : BitVec 8) (s : State) (h : v.toNat < NV), ∃ t, exec (.voiceRelease v) s = .next t ∧
    t = { s with voices := t.voices } ∧
    (∀ w : Fin NV, w.val ≠ v.toNat → t.voices[w] = s.voices[w]) ∧
    t.voices[(⟨v.toNat, h⟩ : Fin NV)] =
      (let x := s.voices[(⟨v.toNat, h⟩ : Fin NV)];
       if x.active = true then { x with adsr := ⟨.release, x.adsr.e, 0, x.adsr.e⟩ } else x)

/-- R169: VOICE_RETRIGGER restarts an active voice's envelope from its level and leaves an inactive one. -/
def Obligations.VoiceRetriggerRestartsEnvelope : Prop :=
  ∀ (v : BitVec 8) (s : State) (h : v.toNat < NV), ∃ t, exec (.voiceRetrigger v) s = .next t ∧
    t = { s with voices := t.voices } ∧
    (∀ w : Fin NV, w.val ≠ v.toNat → t.voices[w] = s.voices[w]) ∧
    t.voices[(⟨v.toNat, h⟩ : Fin NV)] =
      (let x := s.voices[(⟨v.toNat, h⟩ : Fin NV)];
       if x.active = true then
         { x with adsr := ⟨if s.params.envDelay = 0 then .attack else .delay, x.adsr.e, 0, x.adsr.e⟩ }
       else x)

/-- R170: VOICE_STOP makes the voice inactive and Idle with its envelope clear, and keeps the rest of it. -/
def Obligations.VoiceStopStopsVoice : Prop :=
  ∀ (v : BitVec 8) (s : State) (h : v.toNat < NV), ∃ t, exec (.voiceStop v) s = .next t ∧
    t = { s with voices := t.voices } ∧
    (∀ w : Fin NV, w.val ≠ v.toNat → t.voices[w] = s.voices[w]) ∧
    t.voices[(⟨v.toNat, h⟩ : Fin NV)] =
      { s.voices[(⟨v.toNat, h⟩ : Fin NV)] with active := false, adsr := ⟨.idle, 0, 0, 0⟩ }

/-! TICK -/

/-- R191: a tick with EN = 0 emits (0, 0), clears OUT_L and OUT_R, and changes nothing else. -/
def Obligations.DisabledTickIsSilent : Prop :=
  ∀ s : State, s.params.en = false →
    exec .tick s = .next { s with frames := s.frames ++ [(0, 0)], outL := 0, outR := 0 }

/-- R195, R196, R197: an enabled tick emits one frame into OUT_L and OUT_R, accounts for it in the telemetry
with saturation, advances FRAME_COUNT and LFO_PHASE modulo 2^32, and leaves every parameter, flag, latch and
waiting operation. -/
def Obligations.EnabledTickAccounts : Prop :=
  ∀ s : State, s.params.en = true → ∃ t, exec .tick s = .next t ∧
    t.frames = s.frames ++ [(t.outL, t.outR)] ∧
    t.telem.peakL.toNat = max s.telem.peakL.toNat t.outL.toInt.natAbs ∧
    t.telem.peakR.toNat = max s.telem.peakR.toNat t.outR.toInt.natAbs ∧
    (t.telem.energyL.toNat : Int) = min (s.telem.energyL.toNat + t.outL.toInt * t.outL.toInt) (2 ^ 64 - 1) ∧
    (t.telem.energyR.toNat : Int) = min (s.telem.energyR.toNat + t.outR.toInt * t.outR.toInt) (2 ^ 64 - 1) ∧
    t.telem.energyCount.toNat = min (s.telem.energyCount.toNat + 1) (2 ^ 32 - 1) ∧
    t.telem.eshadowL = s.telem.eshadowL ∧ t.telem.eshadowR = s.telem.eshadowR ∧
    t.frameCount.toNat = (s.frameCount.toNat + 1) % 2 ^ 32 ∧
    t.lfoPhase.toNat = (s.lfoPhase.toNat + s.params.lfoInc.toNat) % 2 ^ 32 ∧
    t.params = s.params ∧ t.cmdErr = s.cmdErr ∧ t.busErr = s.busErr ∧ t.stream = s.stream ∧ t.reads = s.reads

/-- R190, R194: the outputs of an enabled tick are the final stage of the exact sums of the voices'
contributions, gained, clipped and held to 24 bits with nothing lost. -/
def Obligations.EnabledTickOutputsFinalStage : Prop :=
  ∀ s t : State, s.params.en = true → exec .tick s = .next t →
    t.outL.toInt =
      min (cubic (gmul (sat32 (∑ v : Fin NV, (contribution s v).left)) s.params.masterGain.toNat)) (2 ^ 23 - 1) ∧
    t.outR.toInt =
      min (cubic (gmul (sat32 (∑ v : Fin NV, (contribution s v).right)) s.params.masterGain.toNat)) (2 ^ 23 - 1)

/-- R193: a tick leaves a voice that it does not process exactly as it was, and that voice adds nothing. -/
def Obligations.UnprocessedVoiceHolds : Prop :=
  ∀ (s t : State) (v : Fin NV), exec .tick s = .next t → ¬Processed s v →
    t.voices[v] = s.voices[v] ∧
      (s.params.en = true → (contribution s v).left = 0 ∧ (contribution s v).right = 0)

/-- R199: a processed voice whose lowered level is below VTHRESH becomes inactive and Idle, keeps everything
but VLEVEL, E and CNT, and contributes (0, 0). -/
def Obligations.ThresholdDeactivatesVoice : Prop :=
  ∀ (s t : State) (v : Fin NV), exec .tick s = .next t → Processed s v →
    (loweredLevel s.voices[v]).toNat < s.params.vthresh.toNat →
      (contribution s v).left = 0 ∧ (contribution s v).right = 0 ∧
      t.voices[v] =
        { s.voices[v] with
          vlevel := loweredLevel s.voices[v]
          active := false
          adsr := ⟨.idle, 0, 0, (s.voices[v]).adsr.sl⟩ }

/-- R198, R200, R201, R218, R220, R275 to R280, R303, R324, R325: every field of a processed voice that passes the
threshold check, after the tick. -/
def Obligations.ProcessedVoiceAdvances : Prop :=
  ∀ (s t : State) (v : Fin NV), exec .tick s = .next t → Processed s v →
    s.params.vthresh.toNat ≤ (loweredLevel s.voices[v]).toNat →
      let p := s.params;
      let x := s.voices[v];
      let y := t.voices[v];
      let m := modMatrix p (lfoValue s.lfoPhase) y.adsr.e x.vvel x.vpres;
      let c := coefRom (cutoffIndex p m.cutoff) (resoIndex p m.reso);
      let n := noiseStep p.noiseSel x.vnstate x.path.pink x.path.ms1 x.path.ms2;
      let banked := sat32 (oscSum p.pcap x.phase x.pamp * ((loweredLevel x).toNat : Int) / 2 ^ 31);
      let x2 := tanhClip (sat32 (cubic banked + gmul n.sample p.noiseLevel.toNat));
      y.vlevel = loweredLevel x ∧
      (∀ k : Fin NP, (y.phase[k]).toNat = ((x.phase[k]).toNat + (x.pinc[k]).toNat) % 2 ^ 32) ∧
      y.vage.toNat = min (x.vage.toNat + 1) (2 ^ 32 - 1) ∧
      y.vnstate = xorshift x.vnstate ∧
      y.path.pink = n.pink ∧ y.path.ms1 = n.ms1 ∧ y.path.ms2 = n.ms2 ∧
      y.adsr = x.adsr.step p ∧
      (y.active = true ↔ y.adsr.stage ≠ .idle) ∧
      y.path.sec1 = biquad c x2 x.path.sec1 ∧
      y.path.sec2 = biquad c y.path.sec1.y1.toInt x.path.sec2 ∧
      y.path.hx1.toInt = tanhClip (gmul y.path.sec2.y1.toInt (gcompRom (resoIndex p m.reso))) ∧
      y.path.hy1.toInt =
        sat32 (p.punchHpc.toNat * (x.path.hy1.toInt + y.path.hx1.toInt - x.path.hx1.toInt) / 65536) ∧
      y.vdecay = x.vdecay ∧ y.vpan = x.vpan ∧ y.vvel = x.vvel ∧ y.vpres = x.vpres ∧ y.pinc = x.pinc ∧
      y.pamp = x.pamp

/-- R198, R221, R302 to R305: what a processed voice that passes the threshold check adds to the left and to the
right sum, from the filter output HX1 and the high-pass output HY1 that the tick leaves in it. -/
def Obligations.SoundingVoiceContributes : Prop :=
  ∀ (s t : State) (v : Fin NV), exec .tick s = .next t → Processed s v →
    s.params.vthresh.toNat ≤ (loweredLevel s.voices[v]).toNat →
      let p := s.params;
      let x := s.voices[v];
      let y := t.voices[v];
      let m := modMatrix p (lfoValue s.lfoPhase) y.adsr.e x.vvel x.vpres;
      let g := vcaGain p.vcaMode y.adsr.e m.vca;
      let main := cubic (gmul y.path.hx1.toInt g);
      let pm := gmul (gmul (tanhClip (gmul y.path.hy1.toInt p.punchDrive.toNat)) g) p.punchMix.toNat;
      let out := sat32 (main + pm);
      (contribution s v).left = gmul out (65536 - x.vpan.toNat) ∧ (contribution s v).right = gmul out x.vpan.toNat

/-- R200, R252: the tick in which Release ends leaves the voice Idle, inactive and at level 0, and still counts
as a processed frame. -/
def Obligations.ReleaseEndDeactivatesVoice : Prop :=
  ∀ (s t : State) (v : Fin NV), exec .tick s = .next t → Processed s v →
    s.params.vthresh.toNat ≤ (loweredLevel s.voices[v]).toNat → (s.voices[v]).adsr.stage = .release →
    s.params.envRelease.toNat ≤ (s.voices[v]).adsr.cnt.toNat + 1 →
      (t.voices[v]).active = false ∧ (t.voices[v]).adsr = ⟨.idle, 0, 0, (s.voices[v]).adsr.sl⟩ ∧
        (t.voices[v]).vage.toNat = min ((s.voices[v]).vage.toNat + 1) (2 ^ 32 - 1)

/-- R395: an enabled tick with no active voice emits (0, 0), counts the frame and changes no voice. -/
def Obligations.TickWithoutVoicesIsSilent : Prop :=
  ∀ s : State, s.params.en = true → (∀ v : Fin NV, (s.voices[v]).active = false) →
    ∃ t, exec .tick s = .next t ∧ t.frames = s.frames ++ [(0, 0)] ∧ t.outL = 0 ∧ t.outR = 0 ∧
      t.frameCount = s.frameCount + 1 ∧ t.voices = s.voices

/-- R202: a voice after a tick depends only on itself, the parameters and LFO_PHASE. -/
def Obligations.VoicesDoNotInteract : Prop :=
  ∀ (s₁ s₂ t₁ t₂ : State) (v : Fin NV),
    s₁.params = s₂.params → s₁.lfoPhase = s₂.lfoPhase → s₁.voices[v] = s₂.voices[v] →
    exec .tick s₁ = .next t₁ → exec .tick s₂ = .next t₂ → t₁.voices[v] = t₂.voices[v]

/-! Datapath -/

/-- R10, R11: the datapath operators: the floor shift, the clamp, the 32-bit saturation, and the saturated and the
unsaturated product with a Q16 gain. -/
def Obligations.OperatorsFollowTheirFormulas : Prop :=
  (∀ (x : Int) (k : Nat), asr x k = ⌊(x : ℝ) / 2 ^ k⌋) ∧
    (∀ x lo hi : Int, clamp x lo hi = min (max x lo) hi) ∧
    (∀ x : Int, sat32 x = min (max x (-2 ^ 31)) (2 ^ 31 - 1)) ∧
    (∀ x g : Int, q16 x g = ⌊((x * g : Int) : ℝ) / 65536⌋) ∧
    ∀ x g : Int, gmul x g = min (max ⌊((x * g : Int) : ℝ) / 65536⌋ (-2 ^ 31)) (2 ^ 31 - 1)

/-- R211, R16: every SINE_ROM entry is the correctly rounded value of its formula. -/
def Obligations.SineRomIsRoundedSine : Prop :=
  ∀ i : Nat, i < 2048 → sineRom i = roundAway (8388607 * Real.sin (2 * Real.pi * (i : ℝ) / 2048))

/-- R223: the worked values of WAVE and CUBIC. -/
def Obligations.WaveAndCubicWorkedValues : Prop :=
  wave 0x00000000 = 0 ∧ sineRom 1 = 25736 ∧ wave 0x00100000 = 12868 ∧ wave 0x00200000 = 25736 ∧
    wave 0x20000000 = 5931641 ∧ wave 0x40000000 = 8388607 ∧ wave 0x80000000 = 0 ∧ wave 0xC0000000 = -8388607 ∧
    wave 0xFFFFFFFF = -1 ∧ wave 0x12345678 = 3624593 ∧ cubic 4194304 = 5767168 ∧ cubic (-4194304) = -5767168 ∧
    cubic 8388607 = 8388607 ∧ cubic 3000000 = 4308153 ∧ cubic (-3000000) = -4308154 ∧ cubic (2 ^ 30) = 8388608

/-- R212: WAVE is the floored interpolation between two adjacent table entries, so it lies between them and in
[-8388607, 8388607]. -/
def Obligations.WaveInterpolatesEntries : Prop :=
  ∀ ph : Word,
    let i : Nat := ph.toNat / 2 ^ 21;
    let f : Nat := ph.toNat / 2 ^ 5 % 2 ^ 16;
    let a := sineRom i;
    let b := sineRom ((i + 1) % 2048);
    wave ph = a + (b - a) * (f : Int) / 2 ^ 16 ∧ min a b ≤ wave ph ∧ wave ph ≤ max a b ∧
      -8388607 ≤ wave ph ∧ wave ph ≤ 8388607

/-- R213, R214: a partial's term is the wave times its amplitude shifted by 15, below 2^24; the bank is the exact
sum of the terms below PCAP, below 2^30; nothing of a partial at or above PCAP matters, and PCAP = 0 gives 0. -/
def Obligations.OscSumIsBoundedCappedSum : Prop :=
  (∀ (ph : Word) (amp : BitVec 16),
      partialTerm ph amp = wave ph * (amp.toNat : Int) / 2 ^ 15 ∧ |partialTerm ph amp| < 2 ^ 24) ∧
    (∀ (pcap : BitVec 7) (phase : Vector Word NP) (pamp : Vector (BitVec 16) NP),
      oscSum pcap phase pamp =
          ∑ p : Fin NP, (if p.val < pcap.toNat then wave phase[p] * ((pamp[p]).toNat : Int) / 2 ^ 15 else 0) ∧
        |oscSum pcap phase pamp| < 2 ^ 30) ∧
    (∀ (phase : Vector Word NP) (pamp : Vector (BitVec 16) NP), oscSum 0 phase pamp = 0) ∧
    ∀ (pcap : BitVec 7) (phase phase' : Vector Word NP) (pamp pamp' : Vector (BitVec 16) NP),
      (∀ p : Fin NP, p.val < pcap.toNat → phase[p] = phase'[p] ∧ pamp[p] = pamp'[p]) →
        oscSum pcap phase pamp = oscSum pcap phase' pamp'

/-- R219: CUBIC is monotone with range [-2^23, 2^23]; it takes the two ends from the clip points on, and inside them
it is the floor of its polynomial. -/
def Obligations.CubicIsMonotoneClip : Prop :=
  (∀ x y : Int, x ≤ y → cubic x ≤ cubic y) ∧ (∀ x : Int, -2 ^ 23 ≤ cubic x ∧ cubic x ≤ 2 ^ 23) ∧
    (∀ x : Int, 2 ^ 23 ≤ x → cubic x = 2 ^ 23) ∧ (∀ x : Int, x ≤ -2 ^ 23 → cubic x = -2 ^ 23) ∧
    ∀ x : Int, |x| < 2 ^ 23 →
      cubic x = ⌊(2 : ℝ) ^ 23 * (1.5 * ((x : ℝ) / 2 ^ 23) - 0.5 * ((x : ℝ) / 2 ^ 23) ^ 3)⌋

/-- R273, R274: TANH is the floored interpolation between two adjacent TANH_ROM entries below 2^25 and 8382982 from
there on; it is odd, monotone and bounded by 8382982; and the worked entries of TANH_ROM. -/
def Obligations.TanhInterpolatesOddMonotone : Prop :=
  (∀ x : Int, 0 ≤ x → x < 2 ^ 25 →
      let k : Nat := x.toNat / 2 ^ 15;
      tanhClip x = tanhRom k + (tanhRom (k + 1) - tanhRom k) * (x % 2 ^ 15) / 2 ^ 15) ∧
    (∀ x : Int, 2 ^ 25 ≤ x → tanhClip x = 8382982) ∧ (∀ x : Int, tanhClip (-x) = -tanhClip x) ∧
    (∀ x y : Int, x ≤ y → tanhClip x ≤ tanhClip y) ∧ (∀ x : Int, |tanhClip x| ≤ 8382982) ∧
    tanhRom 0 = 0 ∧ tanhRom 1 = 32768 ∧ tanhRom 256 = 6388715 ∧ tanhRom 512 = 8086849 ∧ tanhRom 1024 = 8382982

/-- R242, R243, R256: SHAPE interpolates between two adjacent SHAPE_ROM entries, takes its worked values, stays in
[0, 65536) and never decreases. -/
def Obligations.ShapeInterpolatesMonotonically : Prop :=
  (∀ p : Nat, p < 65536 →
      shape p =
          shapeRom (p / 64) + (shapeRom (p / 64 + 1) - shapeRom (p / 64)) * ((p % 64 : Nat) : Int) / 64 ∧
        0 ≤ shape p ∧ shape p < 65536) ∧
    (∀ p q : Nat, p ≤ q → q < 65536 → shape p ≤ shape q) ∧
    shapeRom 0 = 0 ∧ shapeRom 1 = 321 ∧ shapeRom 512 = 60565 ∧ shapeRom 1023 = 65534 ∧ shapeRom 1024 = 65536 ∧
    shape 0 = 0 ∧ shape 1 = 5 ∧ shape 63 = 315 ∧ shape 64 = 321 ∧ shape 65 = 326 ∧ shape 32768 = 60565 ∧
    shape 65535 = 65535

/-- R244, R256: INTERP by its two formulas and its worked levels, both curves; it lies between its start and its
target and moves monotonically from one to the other. -/
def Obligations.InterpMovesTowardsTarget : Prop :=
  (∀ (c : Curve) (S T : Int) (n len : Nat), 1 ≤ n → n < len →
    let pos : Nat := n * 65536 / len;
    interp .linear S T n len = S + (T - S) * (pos : Int) / 65536 ∧
    interp .exponential S T n len = S + (T - S) * shape pos / 65536 ∧
    min S T ≤ interp c S T n len ∧ interp c S T n len ≤ max S T ∧
      ∀ m : Nat, n ≤ m → m < len →
        (S ≤ T → interp c S T n len ≤ interp c S T m len) ∧ (T < S → interp c S T m len ≤ interp c S T n len)) ∧
    [1, 2, 3].map (interp .exponential 0 81920 · 4) = [58846, 75706, 80536] ∧
    [1, 2, 3].map (interp .exponential 81920 32768 · 4) = [46612, 36496, 33598] ∧
    [1, 2].map (interp .exponential 32768 0 · 3) = [6009, 955] ∧
    [1, 2, 3].map (interp .linear 0 81920 · 4) = [20480, 40960, 61440] ∧
    [1, 2, 3].map (interp .linear 81920 32768 · 4) = [69632, 57344, 45056]

/-- R247 to R252: one step of the envelope generator in every stage, from every generator state: a stage whose
register CNT + 1 has reached ends with its exact values, and any other counts the frame and, but for Delay, takes the
interpolated level. -/
def Obligations.EnvelopeFollowsItsStages : Prop :=
  (∀ (p : Params) (a : Adsr),
    let n : Nat := a.cnt.toNat + 1;
    let b := a.step p;
    (a.stage = .idle → b = a) ∧
    (a.stage = .delay →
      (p.envDelay.toNat ≤ n → b = ⟨.attack, a.e, 0, a.sl⟩) ∧
      (n < p.envDelay.toNat → b.stage = .delay ∧ b.e = a.e ∧ b.cnt.toNat = n ∧ b.sl = a.sl)) ∧
    (a.stage = .attack →
      (p.envAttack.toNat ≤ n → b = ⟨.decay, p.envOvershoot, 0, p.envOvershoot⟩) ∧
      (n < p.envAttack.toNat → b.stage = .attack ∧ b.cnt.toNat = n ∧ b.sl = a.sl ∧
        (b.e.toNat : Int) = interp p.envMode a.sl.toNat p.envOvershoot.toNat n p.envAttack.toNat)) ∧
    (a.stage = .decay →
      (p.envDecay.toNat ≤ n → b = ⟨.sustain, p.envSustain, 0, a.sl⟩) ∧
      (n < p.envDecay.toNat → b.stage = .decay ∧ b.cnt.toNat = n ∧ b.sl = a.sl ∧
        (b.e.toNat : Int) = interp p.envMode a.sl.toNat p.envSustain.toNat n p.envDecay.toNat)) ∧
    (a.stage = .sustain → b = ⟨.sustain, p.envSustain, a.cnt, a.sl⟩) ∧
    (a.stage = .release →
      (p.envRelease.toNat ≤ n → b = ⟨.idle, 0, 0, a.sl⟩) ∧
      (n < p.envRelease.toNat → b.stage = .release ∧ b.cnt.toNat = n ∧ b.sl = a.sl ∧
        (b.e.toNat : Int) = interp p.envMode a.sl.toNat 0 n p.envRelease.toNat))) ∧
  /- From a trigger at level 0: exactly the overshoot after ENV_DELAY + ENV_ATTACK frames, exactly the sustain level
  ENV_DECAY frames later, and that level from there on. -/
  ∀ (p : Params) (n : Nat), 1 ≤ p.envAttack.toNat → 1 ≤ p.envDecay.toNat →
    (Adsr.step p)^[p.envDelay.toNat] (Adsr.trigger p ⟨.idle, 0, 0, 0⟩) = ⟨.attack, 0, 0, 0⟩ ∧
    (Adsr.step p)^[p.envDelay.toNat + p.envAttack.toNat] (Adsr.trigger p ⟨.idle, 0, 0, 0⟩) =
      ⟨.decay, p.envOvershoot, 0, p.envOvershoot⟩ ∧
    (Adsr.step p)^[p.envDelay.toNat + p.envAttack.toNat + p.envDecay.toNat + n]
        (Adsr.trigger p ⟨.idle, 0, 0, 0⟩) = ⟨.sustain, p.envSustain, 0, p.envOvershoot⟩

/-- R254: the shape of the envelope. With the registers fixed and the overshoot at or above 1.0 and above the
sustain level, the level never falls up to the peak at the end of Attack, never rises from the peak to exactly the
sustain level, is constant in Sustain, and after a release in Sustain never rises until it is exactly 0 and Idle. -/
def Obligations.EnvelopeShape : Prop :=
  ∀ p : Params, 1 ≤ p.envAttack.toNat → 1 ≤ p.envDecay.toNat → 1 ≤ p.envRelease.toNat →
    65536 ≤ p.envOvershoot.toNat → p.envOvershoot.toNat ≤ 81920 → p.envSustain.toNat < 65536 →
    let level := fun n : Nat => ((Adsr.step p)^[n] (Adsr.trigger p ⟨.idle, 0, 0, 0⟩)).e.toNat;
    let release := fun (n : Nat) (sl : BitVec 17) =>
      (Adsr.step p)^[n] (Adsr.startRelease ⟨.sustain, p.envSustain, 0, sl⟩);
    let peak := p.envDelay.toNat + p.envAttack.toNat;
    (∀ n : Nat, n < peak → level n ≤ level (n + 1)) ∧ level peak = p.envOvershoot.toNat ∧
    (∀ n : Nat, peak ≤ n → level (n + 1) ≤ level n) ∧
    (∀ n : Nat, level (peak + p.envDecay.toNat + n) = p.envSustain.toNat) ∧
    (∀ (n : Nat) (sl : BitVec 17), (release (n + 1) sl).e.toNat ≤ (release n sl).e.toNat) ∧
    ∀ sl : BitVec 17, release p.envRelease.toNat sl = ⟨.idle, 0, 0, p.envSustain⟩

/-- R277: a section's output and residue keep the exact sum unless the output saturates, when the residue is 0;
the taps shift by one frame. -/
def Obligations.BiquadKeepsResidue : Prop :=
  ∀ (c : Coefs) (x : Int) (sec : Section),
    let acc := c.b0 * x + 2 * c.b0 * sec.x1.toInt + c.b0 * sec.x2.toInt - c.a1 * sec.y1.toInt - c.a2 * sec.y2.toInt
      + sec.ef.toNat;
    (-2 ^ 31 ≤ acc / 2 ^ 28 → acc / 2 ^ 28 < 2 ^ 31 →
      (biquad c x sec).y1.toInt * 2 ^ 28 + (biquad c x sec).ef.toNat = acc) ∧
    (acc / 2 ^ 28 < -2 ^ 31 → (biquad c x sec).y1.toInt = -2 ^ 31 ∧ (biquad c x sec).ef = 0) ∧
    (2 ^ 31 ≤ acc / 2 ^ 28 → (biquad c x sec).y1.toInt = 2 ^ 31 - 1 ∧ (biquad c x sec).ef = 0) ∧
    (-2 ^ 31 ≤ x → x < 2 ^ 31 → (biquad c x sec).x1.toInt = x) ∧
    (biquad c x sec).x2 = sec.x1 ∧ (biquad c x sec).y2 = sec.y1

/-- R279, R283, R306: worked entries of COEF_ROM, values of TANH, the compensation table and the VCA main path. -/
def Obligations.FilterAndVcaWorkedValues : Prop :=
  coefRom 0 0 = ⟨205, -534528813, 266094178⟩ ∧ coefRom 56 0 = ⟨459, -533368729, 264935111⟩ ∧
    coefRom 511 32 = ⟨322176, -522990723, 255843971⟩ ∧ coefRom 512 0 = ⟨284509, -455211496, 187914078⟩ ∧
    coefRom 767 0 = ⟨6302131, -233299514, -9927418⟩ ∧ coefRom 800 40 = ⟨18769827, -407855826, 214499680⟩ ∧
    coefRom 1000 63 = ⟨225072561, 381054724, 250800064⟩ ∧ coefRom 1023 0 = ⟨147734892, 288057738, 34446374⟩ ∧
    coefRom 1023 63 = ⟨257881879, 502825498, 260266561⟩ ∧ coefRom 0 63 = ⟨206, -536823062, 268388429⟩ ∧
    tanhClip 1 = 1 ∧ tanhClip (-1) = -1 ∧ tanhClip 100000 = 99995 ∧ tanhClip (-100000) = -99995 ∧
    tanhClip 4194304 = 3876520 ∧ tanhClip 12582912 = 7592934 ∧
    tanhClip 8388608 = 6388715 ∧ tanhClip (-8388608) = -6388715 ∧ tanhClip 12345678 = 7548945 ∧
    tanhClip 33554431 = 8382981 ∧ tanhClip 33554432 = 8382982 ∧ tanhClip (-2 ^ 31) = -8382982 ∧
    (∀ r : Nat, r ≤ 25 → gcompRom r = 65536) ∧
    (List.range 38).map (fun k => gcompRom (26 + k)) =
      [65206, 61280, 57591, 54123, 50865, 47802, 44924, 42220, 39678, 37289, 35044, 32934, 30951, 29088, 27336,
        25690, 24144, 22690, 21324, 20040, 18834, 17700, 16634, 15633, 14691, 13807, 12976, 12194, 11460, 10770,
        10122, 9512, 8940, 8401, 7896, 7420, 6973, 6554] ∧
    cubic (gmul 4194304 (vcaGain .linear 65536 0)) = 5767168 ∧
    cubic (gmul 4194304 (vcaGain .linear 32768 0)) = 3080192 ∧
    vcaGain .squared 32768 0 = 16384 ∧ cubic (gmul 4194304 (vcaGain .squared 32768 0)) = 1564672 ∧
    vcaGain .squared 81920 0 = 102400 ∧ cubic (gmul 4194304 (vcaGain .squared 81920 0)) = 7830400 ∧
    cubic (gmul (-4194304) (vcaGain .linear 81920 0)) = -6840320 ∧
    cubic (gmul 8382982 (vcaGain .squared 81920 0)) = 8388608

/-- R270, R271, R275: the coefficient indices are in their ranges for every modulation value and every register
content that WR can store. -/
def Obligations.FilterIndicesInRange : Prop :=
  ∀ (p : Params) (m : Int),
    p.cutMin.toNat ≤ cutoffIndex p m ∧ cutoffIndex p m ≤ 1023 ∧ resoIndex p m ≤ 63 ∧
    ((cutoffIndex p m : Int) = min (max (p.cutoff.toNat + (m * 384) / 65536) p.cutMin.toNat) 1023) ∧
    ((resoIndex p m : Int) = (min (max (p.reso.toNat + m) 0) 65536 * 63 + 32768) / 65536)

/-- R300, R301: with the control `c = clamp(E + mv, 0, 81920)`, the linear gain is `c` and the squared gain is
`(c * c) >> 16`; each is in its range, and the two agree at control 0 and 65536. -/
def Obligations.VcaGainFollowsControl : Prop :=
  ∀ (e : BitVec 17) (mv : Int),
    let c := min (max ((e.toNat : Int) + mv) 0) 81920;
    vcaGain .linear e mv = c ∧ vcaGain .squared e mv = c * c / 65536 ∧
    (0 ≤ vcaGain .linear e mv ∧ vcaGain .linear e mv ≤ 81920) ∧
    (0 ≤ vcaGain .squared e mv ∧ vcaGain .squared e mv ≤ 102400) ∧
    (c = 0 ∨ c = 65536 → vcaGain .linear e mv = vcaGain .squared e mv)

/-- R302 to R306: the VCA with its punch path by its formulas, for every PUNCH_MIX; with PUNCH_MIX = 0 the output is
the clipped main path alone; and the punch table of R306, four frames of a constant input. -/
def Obligations.VcaMixesPunchPath : Prop :=
  (∀ (p : Params) (e : BitVec 17) (mv x4 : Int) (hx1 hy1 : Word),
    let t := vcaStep p e mv x4 hx1 hy1;
    let g := vcaGain p.vcaMode e mv;
    let hp := sat32 (p.punchHpc.toNat * (hy1.toInt + x4 - hx1.toInt) / 65536);
    let pp := tanhClip (gmul hp p.punchDrive.toNat);
    t.out = sat32 (cubic (gmul x4 g) + gmul (gmul pp g) p.punchMix.toNat) ∧
    (p.punchMix = 0 → t.out = cubic (gmul x4 g)) ∧
    t.hy1.toInt = hp ∧ (-2 ^ 31 ≤ x4 → x4 < 2 ^ 31 → t.hx1.toInt = x4)) ∧
  (let frame := fun (h : Word × Word × Int) =>
      let t := vcaStep { Params.reset with punchMix := 65536 } 65536 0 4194304 h.1 h.2.1;
      (t.hx1, t.hy1, t.out);
    [1, 2, 3, 4].map (fun n => let h := frame^[n] (0, 0, 0); (h.1.toInt, h.2.1.toInt, h.2.2)) =
      [(4194304, 3679680, 13668376), (4194304, 3228198, 13417634), (4194304, 2832111, 13100155),
        (4194304, 2484622, 12720869)])

/-- R320, R327: the white generator's worked states and samples, voice 0 from reset; its step is one to one and
never gives 0 from a nonzero state; the sample is the signed state shifted by 8. -/
def Obligations.WhiteGeneratorSteps : Prop :=
  (xorshift 0x2545F491 = 0xE124B63A ∧ xorshift 0xE124B63A = 0x8B9A74AB ∧ xorshift 0x8B9A74AB = 0x64E1B3AC ∧
      xorshift 0x64E1B3AC = 0x00174626 ∧ xorshift 0x00174626 = 0xF2ADBBAF ∧ xorshift 0xF2ADBBAF = 0xFED75123) ∧
    (whiteSample 0xE124B63A = -2022218 ∧ whiteSample 0x8B9A74AB = -7628172 ∧ whiteSample 0x64E1B3AC = 6611379 ∧
      whiteSample 0x00174626 = 5958 ∧ whiteSample 0xF2ADBBAF = -873029 ∧ whiteSample 0xFED75123 = -75951) ∧
    (∀ x : Word,
      xorshift x =
        (let a := x ^^^ BitVec.ofNat 32 (x.toNat * 2 ^ 13);
         let b := a ^^^ BitVec.ofNat 32 (a.toNat / 2 ^ 17);
         b ^^^ BitVec.ofNat 32 (b.toNat * 2 ^ 5)) ∧
      whiteSample x = x.toInt / 2 ^ 8) ∧
    (∀ x y : Word, xorshift x = xorshift y → x = y) ∧ ∀ x : Word, x ≠ 0 → xorshift x ≠ 0

/-- R83, R320 to R323: a noise step advances the white state, and from its sample, the signed state shifted by 8, the
pink taps and the mauve integrators take their exact new values with no bit lost to their words; mauve is 16 times
its second integrator, saturated, and the sample is the one NOISE_SEL selects. -/
def Obligations.NoiseFiltersAreExact : Prop :=
  ∀ (c : NoiseColor) (n : Word) (b : PinkTaps) (m1 m2 : Word),
    let w := whiteSample (xorshift n);
    let t := noiseStep c n b m1 m2;
    w = (xorshift n).toInt / 2 ^ 8 ∧ -2 ^ 23 ≤ w ∧ w < 2 ^ 23 ∧ t.vnstate = xorshift n ∧
    t.pink.pb0.toInt = b.pb0.toInt * 65461 / 65536 + w * 3638 / 65536 ∧
    t.pink.pb1.toInt = b.pb1.toInt * 65098 / 65536 + w * 4920 / 65536 ∧
    t.pink.pb2.toInt = b.pb2.toInt * 63504 / 65536 + w * 10083 / 65536 ∧
    t.pink.pb3.toInt = b.pb3.toInt * 56787 / 65536 + w * 20348 / 65536 ∧
    t.pink.pb4.toInt = b.pb4.toInt * 36045 / 65536 + w * 34928 / 65536 ∧
    t.pink.pb5.toInt = b.pb5.toInt * (-49912) / 65536 + w * (-1107) / 65536 ∧
    t.pink.pb6.toInt = w * 7597 / 65536 ∧
    t.ms1.toInt = m1.toInt * 65208 / 65536 + w * 328 / 65536 ∧
    t.ms2.toInt = m2.toInt * 65208 / 65536 + t.ms1.toInt * 328 / 65536 ∧
    (c = .white → t.sample = w) ∧ (c = .mauve → t.sample = sat32 (t.ms2.toInt * 16)) ∧
    (c = .pink → t.sample = sat32 ((t.pink.pb0.toInt + t.pink.pb1.toInt + t.pink.pb2.toInt + t.pink.pb3.toInt
      + t.pink.pb4.toInt + t.pink.pb5.toInt + b.pb6.toInt + w * 35140 / 65536) * 7209 / 65536))

/-- R192, R340, R348: the LFO value is the sine read shifted by 7, with its worked values. R341, R342, R343: each
modulation value is the exact shifted sum of its four products held to [-65536, 65536], and MOVE = 0 takes the LFO
out of the matrix. -/
def Obligations.LfoDrivesBoundedModulation : Prop :=
  (∀ ph : Word, lfoValue ph = wave ph / 128 ∧ -65536 ≤ lfoValue ph ∧ lfoValue ph ≤ 65535) ∧
  (lfoValue 0x00000000 = 0 ∧ lfoValue 0x20000000 = 46340 ∧ lfoValue 0x40000000 = 65535 ∧ lfoValue 0x80000000 = 0 ∧
    lfoValue 0xC0000000 = -65536) ∧
  ∀ (p : Params) (lfo : Int) (e : BitVec 17) (vvel vpres : Word),
    let D := fun k : Fin ND => (p.modDepth[k]).toInt;
    let src := lfo * p.move.toNat / 65536;
    let env := min (e.toNat : Int) 65536;
    let m := modMatrix p lfo e vvel vpres;
    m.cutoff = min (max ((D 0 * src + D 1 * env + D 2 * vvel.toInt + D 3 * vpres.toInt) / 65536) (-65536)) 65536 ∧
    m.reso = min (max ((D 4 * src + D 5 * env + D 6 * vvel.toInt + D 7 * vpres.toInt) / 65536) (-65536)) 65536 ∧
    m.vca = min (max ((D 8 * src + D 9 * env + D 10 * vvel.toInt + D 11 * vpres.toInt) / 65536) (-65536)) 65536 ∧
    (p.move = 0 → ∀ lfo' : Int, modMatrix p lfo' e vvel vpres = m)

end
end

