-- ==== Sys2Proof/Laws/State.lean ====
section
/-! SUPPORT. For each named update of the state, what each field holds after it: one lemma a field, true by
definition, so that no later proof unfolds a record update. -/

namespace Sys2Proof.Machine

open Sys2Proof.Config

@[simp] theorem State.updVoice_cmdErr (s : State) (v : Fin NV) (f : Voice → Voice) : (s.updVoice v f).cmdErr = s.cmdErr := rfl
@[simp] theorem State.updVoice_busErr (s : State) (v : Fin NV) (f : Voice → Voice) : (s.updVoice v f).busErr = s.busErr := rfl
@[simp] theorem State.updVoice_params (s : State) (v : Fin NV) (f : Voice → Voice) : (s.updVoice v f).params = s.params := rfl
@[simp] theorem State.updVoice_lfoPhase (s : State) (v : Fin NV) (f : Voice → Voice) : (s.updVoice v f).lfoPhase = s.lfoPhase := rfl
@[simp] theorem State.updVoice_frameCount (s : State) (v : Fin NV) (f : Voice → Voice) : (s.updVoice v f).frameCount = s.frameCount := rfl
@[simp] theorem State.updVoice_outL (s : State) (v : Fin NV) (f : Voice → Voice) : (s.updVoice v f).outL = s.outL := rfl
@[simp] theorem State.updVoice_outR (s : State) (v : Fin NV) (f : Voice → Voice) : (s.updVoice v f).outR = s.outR := rfl
@[simp] theorem State.updVoice_telem (s : State) (v : Fin NV) (f : Voice → Voice) : (s.updVoice v f).telem = s.telem := rfl
@[simp] theorem State.updVoice_voices (s : State) (v : Fin NV) (f : Voice → Voice) : (s.updVoice v f).voices = s.voices.set v (f s.voices[v]) := rfl
@[simp] theorem State.updVoice_stream (s : State) (v : Fin NV) (f : Voice → Voice) : (s.updVoice v f).stream = s.stream := rfl
@[simp] theorem State.updVoice_reads (s : State) (v : Fin NV) (f : Voice → Voice) : (s.updVoice v f).reads = s.reads := rfl
@[simp] theorem State.updVoice_frames (s : State) (v : Fin NV) (f : Voice → Voice) : (s.updVoice v f).frames = s.frames := rfl

@[simp] theorem State.setVoices_cmdErr (s : State) (vs : Vector Voice NV) : (s.setVoices vs).cmdErr = s.cmdErr := rfl
@[simp] theorem State.setVoices_busErr (s : State) (vs : Vector Voice NV) : (s.setVoices vs).busErr = s.busErr := rfl
@[simp] theorem State.setVoices_params (s : State) (vs : Vector Voice NV) : (s.setVoices vs).params = s.params := rfl
@[simp] theorem State.setVoices_lfoPhase (s : State) (vs : Vector Voice NV) : (s.setVoices vs).lfoPhase = s.lfoPhase := rfl
@[simp] theorem State.setVoices_frameCount (s : State) (vs : Vector Voice NV) : (s.setVoices vs).frameCount = s.frameCount := rfl
@[simp] theorem State.setVoices_outL (s : State) (vs : Vector Voice NV) : (s.setVoices vs).outL = s.outL := rfl
@[simp] theorem State.setVoices_outR (s : State) (vs : Vector Voice NV) : (s.setVoices vs).outR = s.outR := rfl
@[simp] theorem State.setVoices_telem (s : State) (vs : Vector Voice NV) : (s.setVoices vs).telem = s.telem := rfl
@[simp] theorem State.setVoices_voices (s : State) (vs : Vector Voice NV) : (s.setVoices vs).voices = vs := rfl
@[simp] theorem State.setVoices_stream (s : State) (vs : Vector Voice NV) : (s.setVoices vs).stream = s.stream := rfl
@[simp] theorem State.setVoices_reads (s : State) (vs : Vector Voice NV) : (s.setVoices vs).reads = s.reads := rfl
@[simp] theorem State.setVoices_frames (s : State) (vs : Vector Voice NV) : (s.setVoices vs).frames = s.frames := rfl

@[simp] theorem State.setParams_cmdErr (s : State) (p : Params) : (s.setParams p).cmdErr = s.cmdErr := rfl
@[simp] theorem State.setParams_busErr (s : State) (p : Params) : (s.setParams p).busErr = s.busErr := rfl
@[simp] theorem State.setParams_params (s : State) (p : Params) : (s.setParams p).params = p := rfl
@[simp] theorem State.setParams_lfoPhase (s : State) (p : Params) : (s.setParams p).lfoPhase = s.lfoPhase := rfl
@[simp] theorem State.setParams_frameCount (s : State) (p : Params) : (s.setParams p).frameCount = s.frameCount := rfl
@[simp] theorem State.setParams_outL (s : State) (p : Params) : (s.setParams p).outL = s.outL := rfl
@[simp] theorem State.setParams_outR (s : State) (p : Params) : (s.setParams p).outR = s.outR := rfl
@[simp] theorem State.setParams_telem (s : State) (p : Params) : (s.setParams p).telem = s.telem := rfl
@[simp] theorem State.setParams_voices (s : State) (p : Params) : (s.setParams p).voices = s.voices := rfl
@[simp] theorem State.setParams_stream (s : State) (p : Params) : (s.setParams p).stream = s.stream := rfl
@[simp] theorem State.setParams_reads (s : State) (p : Params) : (s.setParams p).reads = s.reads := rfl
@[simp] theorem State.setParams_frames (s : State) (p : Params) : (s.setParams p).frames = s.frames := rfl

@[simp] theorem State.setTelem_cmdErr (s : State) (t : Telem) : (s.setTelem t).cmdErr = s.cmdErr := rfl
@[simp] theorem State.setTelem_busErr (s : State) (t : Telem) : (s.setTelem t).busErr = s.busErr := rfl
@[simp] theorem State.setTelem_params (s : State) (t : Telem) : (s.setTelem t).params = s.params := rfl
@[simp] theorem State.setTelem_lfoPhase (s : State) (t : Telem) : (s.setTelem t).lfoPhase = s.lfoPhase := rfl
@[simp] theorem State.setTelem_frameCount (s : State) (t : Telem) : (s.setTelem t).frameCount = s.frameCount := rfl
@[simp] theorem State.setTelem_outL (s : State) (t : Telem) : (s.setTelem t).outL = s.outL := rfl
@[simp] theorem State.setTelem_outR (s : State) (t : Telem) : (s.setTelem t).outR = s.outR := rfl
@[simp] theorem State.setTelem_telem (s : State) (t : Telem) : (s.setTelem t).telem = t := rfl
@[simp] theorem State.setTelem_voices (s : State) (t : Telem) : (s.setTelem t).voices = s.voices := rfl
@[simp] theorem State.setTelem_stream (s : State) (t : Telem) : (s.setTelem t).stream = s.stream := rfl
@[simp] theorem State.setTelem_reads (s : State) (t : Telem) : (s.setTelem t).reads = s.reads := rfl
@[simp] theorem State.setTelem_frames (s : State) (t : Telem) : (s.setTelem t).frames = s.frames := rfl

@[simp] theorem State.setLfoPhase_cmdErr (s : State) (d : Word) : (s.setLfoPhase d).cmdErr = s.cmdErr := rfl
@[simp] theorem State.setLfoPhase_busErr (s : State) (d : Word) : (s.setLfoPhase d).busErr = s.busErr := rfl
@[simp] theorem State.setLfoPhase_params (s : State) (d : Word) : (s.setLfoPhase d).params = s.params := rfl
@[simp] theorem State.setLfoPhase_lfoPhase (s : State) (d : Word) : (s.setLfoPhase d).lfoPhase = d := rfl
@[simp] theorem State.setLfoPhase_frameCount (s : State) (d : Word) : (s.setLfoPhase d).frameCount = s.frameCount := rfl
@[simp] theorem State.setLfoPhase_outL (s : State) (d : Word) : (s.setLfoPhase d).outL = s.outL := rfl
@[simp] theorem State.setLfoPhase_outR (s : State) (d : Word) : (s.setLfoPhase d).outR = s.outR := rfl
@[simp] theorem State.setLfoPhase_telem (s : State) (d : Word) : (s.setLfoPhase d).telem = s.telem := rfl
@[simp] theorem State.setLfoPhase_voices (s : State) (d : Word) : (s.setLfoPhase d).voices = s.voices := rfl
@[simp] theorem State.setLfoPhase_stream (s : State) (d : Word) : (s.setLfoPhase d).stream = s.stream := rfl
@[simp] theorem State.setLfoPhase_reads (s : State) (d : Word) : (s.setLfoPhase d).reads = s.reads := rfl
@[simp] theorem State.setLfoPhase_frames (s : State) (d : Word) : (s.setLfoPhase d).frames = s.frames := rfl

@[simp] theorem State.returnWord_cmdErr (s : State) (w : Word) : (s.returnWord w).cmdErr = s.cmdErr := rfl
@[simp] theorem State.returnWord_busErr (s : State) (w : Word) : (s.returnWord w).busErr = s.busErr := rfl
@[simp] theorem State.returnWord_params (s : State) (w : Word) : (s.returnWord w).params = s.params := rfl
@[simp] theorem State.returnWord_lfoPhase (s : State) (w : Word) : (s.returnWord w).lfoPhase = s.lfoPhase := rfl
@[simp] theorem State.returnWord_frameCount (s : State) (w : Word) : (s.returnWord w).frameCount = s.frameCount := rfl
@[simp] theorem State.returnWord_outL (s : State) (w : Word) : (s.returnWord w).outL = s.outL := rfl
@[simp] theorem State.returnWord_outR (s : State) (w : Word) : (s.returnWord w).outR = s.outR := rfl
@[simp] theorem State.returnWord_telem (s : State) (w : Word) : (s.returnWord w).telem = s.telem := rfl
@[simp] theorem State.returnWord_voices (s : State) (w : Word) : (s.returnWord w).voices = s.voices := rfl
@[simp] theorem State.returnWord_stream (s : State) (w : Word) : (s.returnWord w).stream = s.stream := rfl
@[simp] theorem State.returnWord_reads (s : State) (w : Word) : (s.returnWord w).reads = s.reads ++ [w] := rfl
@[simp] theorem State.returnWord_frames (s : State) (w : Word) : (s.returnWord w).frames = s.frames := rfl

@[simp] theorem State.emitFrame_cmdErr (s : State) (l r : OutSample) : (s.emitFrame l r).cmdErr = s.cmdErr := rfl
@[simp] theorem State.emitFrame_busErr (s : State) (l r : OutSample) : (s.emitFrame l r).busErr = s.busErr := rfl
@[simp] theorem State.emitFrame_params (s : State) (l r : OutSample) : (s.emitFrame l r).params = s.params := rfl
@[simp] theorem State.emitFrame_lfoPhase (s : State) (l r : OutSample) : (s.emitFrame l r).lfoPhase = s.lfoPhase := rfl
@[simp] theorem State.emitFrame_frameCount (s : State) (l r : OutSample) : (s.emitFrame l r).frameCount = s.frameCount := rfl
@[simp] theorem State.emitFrame_outL (s : State) (l r : OutSample) : (s.emitFrame l r).outL = l := rfl
@[simp] theorem State.emitFrame_outR (s : State) (l r : OutSample) : (s.emitFrame l r).outR = r := rfl
@[simp] theorem State.emitFrame_telem (s : State) (l r : OutSample) : (s.emitFrame l r).telem = s.telem := rfl
@[simp] theorem State.emitFrame_voices (s : State) (l r : OutSample) : (s.emitFrame l r).voices = s.voices := rfl
@[simp] theorem State.emitFrame_stream (s : State) (l r : OutSample) : (s.emitFrame l r).stream = s.stream := rfl
@[simp] theorem State.emitFrame_reads (s : State) (l r : OutSample) : (s.emitFrame l r).reads = s.reads := rfl
@[simp] theorem State.emitFrame_frames (s : State) (l r : OutSample) : (s.emitFrame l r).frames = s.frames ++ [(l, r)] := rfl

@[simp] theorem State.advanceClock_cmdErr (s : State) : (s.advanceClock).cmdErr = s.cmdErr := rfl
@[simp] theorem State.advanceClock_busErr (s : State) : (s.advanceClock).busErr = s.busErr := rfl
@[simp] theorem State.advanceClock_params (s : State) : (s.advanceClock).params = s.params := rfl
@[simp] theorem State.advanceClock_lfoPhase (s : State) : (s.advanceClock).lfoPhase = s.lfoPhase + s.params.lfoInc := rfl
@[simp] theorem State.advanceClock_frameCount (s : State) : (s.advanceClock).frameCount = s.frameCount + 1 := rfl
@[simp] theorem State.advanceClock_outL (s : State) : (s.advanceClock).outL = s.outL := rfl
@[simp] theorem State.advanceClock_outR (s : State) : (s.advanceClock).outR = s.outR := rfl
@[simp] theorem State.advanceClock_telem (s : State) : (s.advanceClock).telem = s.telem := rfl
@[simp] theorem State.advanceClock_voices (s : State) : (s.advanceClock).voices = s.voices := rfl
@[simp] theorem State.advanceClock_stream (s : State) : (s.advanceClock).stream = s.stream := rfl
@[simp] theorem State.advanceClock_reads (s : State) : (s.advanceClock).reads = s.reads := rfl
@[simp] theorem State.advanceClock_frames (s : State) : (s.advanceClock).frames = s.frames := rfl

@[simp] theorem State.flagBusErr_cmdErr (s : State) : (s.flagBusErr).cmdErr = s.cmdErr := rfl
@[simp] theorem State.flagBusErr_busErr (s : State) : (s.flagBusErr).busErr = true := rfl
@[simp] theorem State.flagBusErr_params (s : State) : (s.flagBusErr).params = s.params := rfl
@[simp] theorem State.flagBusErr_lfoPhase (s : State) : (s.flagBusErr).lfoPhase = s.lfoPhase := rfl
@[simp] theorem State.flagBusErr_frameCount (s : State) : (s.flagBusErr).frameCount = s.frameCount := rfl
@[simp] theorem State.flagBusErr_outL (s : State) : (s.flagBusErr).outL = s.outL := rfl
@[simp] theorem State.flagBusErr_outR (s : State) : (s.flagBusErr).outR = s.outR := rfl
@[simp] theorem State.flagBusErr_telem (s : State) : (s.flagBusErr).telem = s.telem := rfl
@[simp] theorem State.flagBusErr_voices (s : State) : (s.flagBusErr).voices = s.voices := rfl
@[simp] theorem State.flagBusErr_stream (s : State) : (s.flagBusErr).stream = s.stream := rfl
@[simp] theorem State.flagBusErr_reads (s : State) : (s.flagBusErr).reads = s.reads := rfl
@[simp] theorem State.flagBusErr_frames (s : State) : (s.flagBusErr).frames = s.frames := rfl

@[simp] theorem State.flagCmdErr_cmdErr (s : State) : (s.flagCmdErr).cmdErr = true := rfl
@[simp] theorem State.flagCmdErr_busErr (s : State) : (s.flagCmdErr).busErr = s.busErr := rfl
@[simp] theorem State.flagCmdErr_params (s : State) : (s.flagCmdErr).params = s.params := rfl
@[simp] theorem State.flagCmdErr_lfoPhase (s : State) : (s.flagCmdErr).lfoPhase = s.lfoPhase := rfl
@[simp] theorem State.flagCmdErr_frameCount (s : State) : (s.flagCmdErr).frameCount = s.frameCount := rfl
@[simp] theorem State.flagCmdErr_outL (s : State) : (s.flagCmdErr).outL = s.outL := rfl
@[simp] theorem State.flagCmdErr_outR (s : State) : (s.flagCmdErr).outR = s.outR := rfl
@[simp] theorem State.flagCmdErr_telem (s : State) : (s.flagCmdErr).telem = s.telem := rfl
@[simp] theorem State.flagCmdErr_voices (s : State) : (s.flagCmdErr).voices = s.voices := rfl
@[simp] theorem State.flagCmdErr_stream (s : State) : (s.flagCmdErr).stream = s.stream := rfl
@[simp] theorem State.flagCmdErr_reads (s : State) : (s.flagCmdErr).reads = s.reads := rfl
@[simp] theorem State.flagCmdErr_frames (s : State) : (s.flagCmdErr).frames = s.frames := rfl

@[simp] theorem State.clearStatus_cmdErr (s : State) (d : Word) : (s.clearStatus d).cmdErr = (s.cmdErr && !d.getLsbD 0) := rfl
@[simp] theorem State.clearStatus_busErr (s : State) (d : Word) : (s.clearStatus d).busErr = (s.busErr && !d.getLsbD 1) := rfl
@[simp] theorem State.clearStatus_params (s : State) (d : Word) : (s.clearStatus d).params = s.params := rfl
@[simp] theorem State.clearStatus_lfoPhase (s : State) (d : Word) : (s.clearStatus d).lfoPhase = s.lfoPhase := rfl
@[simp] theorem State.clearStatus_frameCount (s : State) (d : Word) : (s.clearStatus d).frameCount = s.frameCount := rfl
@[simp] theorem State.clearStatus_outL (s : State) (d : Word) : (s.clearStatus d).outL = s.outL := rfl
@[simp] theorem State.clearStatus_outR (s : State) (d : Word) : (s.clearStatus d).outR = s.outR := rfl
@[simp] theorem State.clearStatus_telem (s : State) (d : Word) : (s.clearStatus d).telem = s.telem := rfl
@[simp] theorem State.clearStatus_voices (s : State) (d : Word) : (s.clearStatus d).voices = s.voices := rfl
@[simp] theorem State.clearStatus_stream (s : State) (d : Word) : (s.clearStatus d).stream = s.stream := rfl
@[simp] theorem State.clearStatus_reads (s : State) (d : Word) : (s.clearStatus d).reads = s.reads := rfl
@[simp] theorem State.clearStatus_frames (s : State) (d : Word) : (s.clearStatus d).frames = s.frames := rfl

@[simp] theorem State.telemClear_cmdErr (s : State) : (s.telemClear).cmdErr = s.cmdErr := rfl
@[simp] theorem State.telemClear_busErr (s : State) : (s.telemClear).busErr = s.busErr := rfl
@[simp] theorem State.telemClear_params (s : State) : (s.telemClear).params = s.params := rfl
@[simp] theorem State.telemClear_lfoPhase (s : State) : (s.telemClear).lfoPhase = s.lfoPhase := rfl
@[simp] theorem State.telemClear_frameCount (s : State) : (s.telemClear).frameCount = s.frameCount := rfl
@[simp] theorem State.telemClear_outL (s : State) : (s.telemClear).outL = s.outL := rfl
@[simp] theorem State.telemClear_outR (s : State) : (s.telemClear).outR = s.outR := rfl
@[simp] theorem State.telemClear_telem (s : State) : (s.telemClear).telem = Telem.reset := rfl
@[simp] theorem State.telemClear_voices (s : State) : (s.telemClear).voices = s.voices := rfl
@[simp] theorem State.telemClear_stream (s : State) : (s.telemClear).stream = s.stream := rfl
@[simp] theorem State.telemClear_reads (s : State) : (s.telemClear).reads = s.reads := rfl
@[simp] theorem State.telemClear_frames (s : State) : (s.telemClear).frames = s.frames := rfl

@[simp] theorem State.latchL_cmdErr (s : State) : (s.latchL).cmdErr = s.cmdErr := rfl
@[simp] theorem State.latchL_busErr (s : State) : (s.latchL).busErr = s.busErr := rfl
@[simp] theorem State.latchL_params (s : State) : (s.latchL).params = s.params := rfl
@[simp] theorem State.latchL_lfoPhase (s : State) : (s.latchL).lfoPhase = s.lfoPhase := rfl
@[simp] theorem State.latchL_frameCount (s : State) : (s.latchL).frameCount = s.frameCount := rfl
@[simp] theorem State.latchL_outL (s : State) : (s.latchL).outL = s.outL := rfl
@[simp] theorem State.latchL_outR (s : State) : (s.latchL).outR = s.outR := rfl
@[simp] theorem State.latchL_telem (s : State) : (s.latchL).telem = { s.telem with eshadowL := s.telem.energyL.extractLsb' 32 32 } := rfl
@[simp] theorem State.latchL_voices (s : State) : (s.latchL).voices = s.voices := rfl
@[simp] theorem State.latchL_stream (s : State) : (s.latchL).stream = s.stream := rfl
@[simp] theorem State.latchL_reads (s : State) : (s.latchL).reads = s.reads := rfl
@[simp] theorem State.latchL_frames (s : State) : (s.latchL).frames = s.frames := rfl

@[simp] theorem State.latchR_cmdErr (s : State) : (s.latchR).cmdErr = s.cmdErr := rfl
@[simp] theorem State.latchR_busErr (s : State) : (s.latchR).busErr = s.busErr := rfl
@[simp] theorem State.latchR_params (s : State) : (s.latchR).params = s.params := rfl
@[simp] theorem State.latchR_lfoPhase (s : State) : (s.latchR).lfoPhase = s.lfoPhase := rfl
@[simp] theorem State.latchR_frameCount (s : State) : (s.latchR).frameCount = s.frameCount := rfl
@[simp] theorem State.latchR_outL (s : State) : (s.latchR).outL = s.outL := rfl
@[simp] theorem State.latchR_outR (s : State) : (s.latchR).outR = s.outR := rfl
@[simp] theorem State.latchR_telem (s : State) : (s.latchR).telem = { s.telem with eshadowR := s.telem.energyR.extractLsb' 32 32 } := rfl
@[simp] theorem State.latchR_voices (s : State) : (s.latchR).voices = s.voices := rfl
@[simp] theorem State.latchR_stream (s : State) : (s.latchR).stream = s.stream := rfl
@[simp] theorem State.latchR_reads (s : State) : (s.latchR).reads = s.reads := rfl
@[simp] theorem State.latchR_frames (s : State) : (s.latchR).frames = s.frames := rfl

@[simp] theorem State.prepare_cmdErr (s : State) : (s.prepare).cmdErr = s.cmdErr := rfl
@[simp] theorem State.prepare_busErr (s : State) : (s.prepare).busErr = s.busErr := rfl
@[simp] theorem State.prepare_params (s : State) : (s.prepare).params = s.params := rfl
@[simp] theorem State.prepare_lfoPhase (s : State) : (s.prepare).lfoPhase = 0 := rfl
@[simp] theorem State.prepare_frameCount (s : State) : (s.prepare).frameCount = 0 := rfl
@[simp] theorem State.prepare_outL (s : State) : (s.prepare).outL = 0 := rfl
@[simp] theorem State.prepare_outR (s : State) : (s.prepare).outR = 0 := rfl
@[simp] theorem State.prepare_telem (s : State) : (s.prepare).telem = Telem.reset := rfl
@[simp] theorem State.prepare_voices (s : State) : (s.prepare).voices = Vector.ofFn fun v : Fin NV => Voice.prepare v.val s.voices[v] := rfl
@[simp] theorem State.prepare_stream (s : State) : (s.prepare).stream = s.stream := rfl
@[simp] theorem State.prepare_reads (s : State) : (s.prepare).reads = s.reads := rfl
@[simp] theorem State.prepare_frames (s : State) : (s.prepare).frames = s.frames := rfl

@[simp] theorem State.consume_cmdErr (s : State) : (s.consume).cmdErr = s.cmdErr := rfl
@[simp] theorem State.consume_busErr (s : State) : (s.consume).busErr = s.busErr := rfl
@[simp] theorem State.consume_params (s : State) : (s.consume).params = s.params := rfl
@[simp] theorem State.consume_lfoPhase (s : State) : (s.consume).lfoPhase = s.lfoPhase := rfl
@[simp] theorem State.consume_frameCount (s : State) : (s.consume).frameCount = s.frameCount := rfl
@[simp] theorem State.consume_outL (s : State) : (s.consume).outL = s.outL := rfl
@[simp] theorem State.consume_outR (s : State) : (s.consume).outR = s.outR := rfl
@[simp] theorem State.consume_telem (s : State) : (s.consume).telem = s.telem := rfl
@[simp] theorem State.consume_voices (s : State) : (s.consume).voices = s.voices := rfl
@[simp] theorem State.consume_stream (s : State) : (s.consume).stream = s.stream.tail := rfl
@[simp] theorem State.consume_reads (s : State) : (s.consume).reads = s.reads := rfl
@[simp] theorem State.consume_frames (s : State) : (s.consume).frames = s.frames := rfl

@[simp] theorem State.pushWord_cmdErr (s : State) (w : How) : (s.pushWord w).cmdErr = s.cmdErr := rfl
@[simp] theorem State.pushWord_busErr (s : State) (w : How) : (s.pushWord w).busErr = s.busErr := rfl
@[simp] theorem State.pushWord_params (s : State) (w : How) : (s.pushWord w).params = s.params := rfl
@[simp] theorem State.pushWord_lfoPhase (s : State) (w : How) : (s.pushWord w).lfoPhase = s.lfoPhase := rfl
@[simp] theorem State.pushWord_frameCount (s : State) (w : How) : (s.pushWord w).frameCount = s.frameCount := rfl
@[simp] theorem State.pushWord_outL (s : State) (w : How) : (s.pushWord w).outL = s.outL := rfl
@[simp] theorem State.pushWord_outR (s : State) (w : How) : (s.pushWord w).outR = s.outR := rfl
@[simp] theorem State.pushWord_telem (s : State) (w : How) : (s.pushWord w).telem = s.telem := rfl
@[simp] theorem State.pushWord_voices (s : State) (w : How) : (s.pushWord w).voices = s.voices := rfl
@[simp] theorem State.pushWord_stream (s : State) (w : How) : (s.pushWord w).stream = w :: s.stream := rfl
@[simp] theorem State.pushWord_reads (s : State) (w : How) : (s.pushWord w).reads = s.reads := rfl
@[simp] theorem State.pushWord_frames (s : State) (w : How) : (s.pushWord w).frames = s.frames := rfl

@[simp] theorem Voice.deactivate_active (x : Voice) : x.deactivate.active = false := rfl
@[simp] theorem Voice.deactivate_adsr (x : Voice) : x.deactivate.adsr = { x.adsr with stage := .idle, e := 0, cnt := 0 } := rfl
@[simp] theorem Voice.deactivate_vlevel (x : Voice) : x.deactivate.vlevel = x.vlevel := rfl
@[simp] theorem Voice.deactivate_vdecay (x : Voice) : x.deactivate.vdecay = x.vdecay := rfl
@[simp] theorem Voice.deactivate_vpan (x : Voice) : x.deactivate.vpan = x.vpan := rfl
@[simp] theorem Voice.deactivate_vvel (x : Voice) : x.deactivate.vvel = x.vvel := rfl
@[simp] theorem Voice.deactivate_vpres (x : Voice) : x.deactivate.vpres = x.vpres := rfl
@[simp] theorem Voice.deactivate_vage (x : Voice) : x.deactivate.vage = x.vage := rfl
@[simp] theorem Voice.deactivate_vnstate (x : Voice) : x.deactivate.vnstate = x.vnstate := rfl
@[simp] theorem Voice.deactivate_path (x : Voice) : x.deactivate.path = x.path := rfl
@[simp] theorem Voice.deactivate_pinc (x : Voice) : x.deactivate.pinc = x.pinc := rfl
@[simp] theorem Voice.deactivate_pamp (x : Voice) : x.deactivate.pamp = x.pamp := rfl
@[simp] theorem Voice.deactivate_phase (x : Voice) : x.deactivate.phase = x.phase := rfl

@[simp] theorem Voice.prepare_active (x : Voice) (v : Nat) : (Voice.prepare v x).active = false := rfl
@[simp] theorem Voice.prepare_adsr (x : Voice) (v : Nat) : (Voice.prepare v x).adsr = Adsr.reset := rfl
@[simp] theorem Voice.prepare_vlevel (x : Voice) (v : Nat) : (Voice.prepare v x).vlevel = x.vlevel := rfl
@[simp] theorem Voice.prepare_vdecay (x : Voice) (v : Nat) : (Voice.prepare v x).vdecay = x.vdecay := rfl
@[simp] theorem Voice.prepare_vpan (x : Voice) (v : Nat) : (Voice.prepare v x).vpan = x.vpan := rfl
@[simp] theorem Voice.prepare_vvel (x : Voice) (v : Nat) : (Voice.prepare v x).vvel = x.vvel := rfl
@[simp] theorem Voice.prepare_vpres (x : Voice) (v : Nat) : (Voice.prepare v x).vpres = x.vpres := rfl
@[simp] theorem Voice.prepare_vage (x : Voice) (v : Nat) : (Voice.prepare v x).vage = 0 := rfl
@[simp] theorem Voice.prepare_vnstate (x : Voice) (v : Nat) : (Voice.prepare v x).vnstate = seed v := rfl
@[simp] theorem Voice.prepare_path (x : Voice) (v : Nat) : (Voice.prepare v x).path = SignalPath.reset := rfl
@[simp] theorem Voice.prepare_pinc (x : Voice) (v : Nat) : (Voice.prepare v x).pinc = x.pinc := rfl
@[simp] theorem Voice.prepare_pamp (x : Voice) (v : Nat) : (Voice.prepare v x).pamp = x.pamp := rfl
@[simp] theorem Voice.prepare_phase (x : Voice) (v : Nat) : (Voice.prepare v x).phase = x.phase := rfl

@[simp] theorem Voice.start_active (x : Voice) (p : Params) : (Voice.start p x).active = true := rfl
@[simp] theorem Voice.start_adsr (x : Voice) (p : Params) : (Voice.start p x).adsr = Adsr.trigger p { x.adsr with e := 0 } := rfl
@[simp] theorem Voice.start_vlevel (x : Voice) (p : Params) : (Voice.start p x).vlevel = x.vlevel := rfl
@[simp] theorem Voice.start_vdecay (x : Voice) (p : Params) : (Voice.start p x).vdecay = x.vdecay := rfl
@[simp] theorem Voice.start_vpan (x : Voice) (p : Params) : (Voice.start p x).vpan = x.vpan := rfl
@[simp] theorem Voice.start_vvel (x : Voice) (p : Params) : (Voice.start p x).vvel = x.vvel := rfl
@[simp] theorem Voice.start_vpres (x : Voice) (p : Params) : (Voice.start p x).vpres = x.vpres := rfl
@[simp] theorem Voice.start_vage (x : Voice) (p : Params) : (Voice.start p x).vage = 0 := rfl
@[simp] theorem Voice.start_vnstate (x : Voice) (p : Params) : (Voice.start p x).vnstate = x.vnstate := rfl
@[simp] theorem Voice.start_path (x : Voice) (p : Params) : (Voice.start p x).path = SignalPath.reset := rfl
@[simp] theorem Voice.start_pinc (x : Voice) (p : Params) : (Voice.start p x).pinc = x.pinc := rfl
@[simp] theorem Voice.start_pamp (x : Voice) (p : Params) : (Voice.start p x).pamp = x.pamp := rfl
@[simp] theorem Voice.start_phase (x : Voice) (p : Params) : (Voice.start p x).phase = x.phase := rfl

@[simp] theorem Voice.stop_active (x : Voice) : x.stop.active = false := rfl
@[simp] theorem Voice.stop_adsr (x : Voice) : x.stop.adsr = Adsr.reset := rfl
@[simp] theorem Voice.stop_vlevel (x : Voice) : x.stop.vlevel = x.vlevel := rfl
@[simp] theorem Voice.stop_vdecay (x : Voice) : x.stop.vdecay = x.vdecay := rfl
@[simp] theorem Voice.stop_vpan (x : Voice) : x.stop.vpan = x.vpan := rfl
@[simp] theorem Voice.stop_vvel (x : Voice) : x.stop.vvel = x.vvel := rfl
@[simp] theorem Voice.stop_vpres (x : Voice) : x.stop.vpres = x.vpres := rfl
@[simp] theorem Voice.stop_vage (x : Voice) : x.stop.vage = x.vage := rfl
@[simp] theorem Voice.stop_vnstate (x : Voice) : x.stop.vnstate = x.vnstate := rfl
@[simp] theorem Voice.stop_path (x : Voice) : x.stop.path = x.path := rfl
@[simp] theorem Voice.stop_pinc (x : Voice) : x.stop.pinc = x.pinc := rfl
@[simp] theorem Voice.stop_pamp (x : Voice) : x.stop.pamp = x.pamp := rfl
@[simp] theorem Voice.stop_phase (x : Voice) : x.stop.phase = x.phase := rfl

@[simp] theorem Voice.afterPath_active (x : Voice) (t : PathTurn) : (x.afterPath t).active = if t.adsr.stage = .idle then false else x.active := rfl
@[simp] theorem Voice.afterPath_adsr (x : Voice) (t : PathTurn) : (x.afterPath t).adsr = t.adsr := rfl
@[simp] theorem Voice.afterPath_vlevel (x : Voice) (t : PathTurn) : (x.afterPath t).vlevel = x.vlevel := rfl
@[simp] theorem Voice.afterPath_vdecay (x : Voice) (t : PathTurn) : (x.afterPath t).vdecay = x.vdecay := rfl
@[simp] theorem Voice.afterPath_vpan (x : Voice) (t : PathTurn) : (x.afterPath t).vpan = x.vpan := rfl
@[simp] theorem Voice.afterPath_vvel (x : Voice) (t : PathTurn) : (x.afterPath t).vvel = x.vvel := rfl
@[simp] theorem Voice.afterPath_vpres (x : Voice) (t : PathTurn) : (x.afterPath t).vpres = x.vpres := rfl
@[simp] theorem Voice.afterPath_vage (x : Voice) (t : PathTurn) : (x.afterPath t).vage = satInc x.vage := rfl
@[simp] theorem Voice.afterPath_vnstate (x : Voice) (t : PathTurn) : (x.afterPath t).vnstate = t.noise.vnstate := rfl
@[simp] theorem Voice.afterPath_path (x : Voice) (t : PathTurn) : (x.afterPath t).path = t.path := rfl
@[simp] theorem Voice.afterPath_pinc (x : Voice) (t : PathTurn) : (x.afterPath t).pinc = x.pinc := rfl
@[simp] theorem Voice.afterPath_pamp (x : Voice) (t : PathTurn) : (x.afterPath t).pamp = x.pamp := rfl
@[simp] theorem Voice.afterPath_phase (x : Voice) (t : PathTurn) : (x.afterPath t).phase = advancePhases x.phase x.pinc := rfl

/-- The voice an update names is what the function makes of it. -/
theorem State.updVoice_get_same (s : State) (v : Fin NV) (f : Voice → Voice) :
    (s.updVoice v f).voices[v] = f s.voices[v] := by
  simp [State.updVoice]

/-- Every other voice stays as it was. -/
theorem State.updVoice_get_other (s : State) (v w : Fin NV) (f : Voice → Voice) (h : v ≠ w) :
    (s.updVoice v f).voices[w] = s.voices[w] := by
  have hv : v.val ≠ w.val := fun e => h (Fin.ext e)
  simp [State.updVoice, hv]

/-- Each voice after PREPARE. -/
theorem State.prepare_get (s : State) (v : Fin NV) : s.prepare.voices[v] = Voice.prepare v.val s.voices[v] := by
  simp [State.prepare]

/-- Each voice after the turns of a frame, at a plain index as simp writes it. -/
@[simp] theorem turnVoices_getElem (ts : Vector Turn NV) (i : Nat) (h : i < NV) :
    (turnVoices ts)[i] = (ts[i]).voice := by
  simp [turnVoices]

/-- Each voice's turn in a frame, at a plain index as simp writes it. -/
@[simp] theorem State.turns_getElem (s : State) (i : Nat) (h : i < NV) :
    s.turns[i] = voiceTurn s.params (lfoValue s.lfoPhase) i s.voices[i] := by
  simp [State.turns]

/-- Each phase after the advance, at a plain index as simp writes it. -/
@[simp] theorem advancePhases_getElem (phase pinc : Vector Word NP) (i : Nat) (h : i < NP) :
    (advancePhases phase pinc)[i] = phase[i] + pinc[i] := by
  simp [advancePhases]

end Sys2Proof.Machine
end

