-- ==== Sys2Proof/Laws/Frame.lean ====
section
/-! SUPPORT. What a voice's turn and a tick can do. -/

namespace Sys2Proof.Machine

open Sys2Proof.Config

/-- The three outcomes of a voice's turn: held (R193), deactivated at the threshold (R199, R217), or sounding
(R198). -/
theorem voiceTurn_cases (p : Params) (lfo : Int) (v : Nat) (x : Voice) :
    (¬(v < p.vcap.toNat ∧ x.active = true) ∧ voiceTurn p lfo v x = { voice := x, left := 0, right := 0 }) ∨
      (v < p.vcap.toNat ∧ x.active = true ∧ (decayLevel x.vlevel x.vdecay).toNat < p.vthresh.toNat ∧
        voiceTurn p lfo v x =
          { voice := Voice.deactivate { x with vlevel := decayLevel x.vlevel x.vdecay }, left := 0, right := 0 }) ∨
      (v < p.vcap.toNat ∧ x.active = true ∧ p.vthresh.toNat ≤ (decayLevel x.vlevel x.vdecay).toNat ∧
        voiceTurn p lfo v x =
          soundVoice p lfo (oscSum p.pcap x.phase x.pamp) { x with vlevel := decayLevel x.vlevel x.vdecay }) := by
  by_cases h : v < p.vcap.toNat ∧ x.active = true
  · by_cases ht : (decayLevel x.vlevel x.vdecay).toNat < p.vthresh.toNat
    · exact .inr (.inl ⟨h.1, h.2, ht, by simp [voiceTurn, voiceFrame, h, ht]⟩)
    · exact .inr (.inr ⟨h.1, h.2, by omega, by simp [voiceTurn, voiceFrame, h, ht]⟩)
  · exact .inl ⟨h, by simp [voiceTurn, h]⟩

/-- The two outcomes of a tick (R190, R191). -/
theorem frame_cases (s : State) :
    (s.params.en = true ∧ s.frame = s.frameEnabled) ∨ (s.params.en = false ∧ s.frame = s.frameDisabled) := by
  cases h : s.params.en
  · exact .inr ⟨rfl, by simp [State.frame, h]⟩
  · exact .inl ⟨rfl, by simp [State.frame, h]⟩

@[simp] theorem State.finishFrame_cmdErr (s : State) (l r : OutSample) : (s.finishFrame l r).cmdErr = s.cmdErr := rfl
@[simp] theorem State.finishFrame_busErr (s : State) (l r : OutSample) : (s.finishFrame l r).busErr = s.busErr := rfl
@[simp] theorem State.finishFrame_params (s : State) (l r : OutSample) : (s.finishFrame l r).params = s.params := rfl
@[simp] theorem State.finishFrame_lfoPhase (s : State) (l r : OutSample) : (s.finishFrame l r).lfoPhase = s.lfoPhase + s.params.lfoInc := rfl
@[simp] theorem State.finishFrame_frameCount (s : State) (l r : OutSample) : (s.finishFrame l r).frameCount = s.frameCount + 1 := rfl
@[simp] theorem State.finishFrame_outL (s : State) (l r : OutSample) : (s.finishFrame l r).outL = l := rfl
@[simp] theorem State.finishFrame_outR (s : State) (l r : OutSample) : (s.finishFrame l r).outR = r := rfl
@[simp] theorem State.finishFrame_telem (s : State) (l r : OutSample) : (s.finishFrame l r).telem = s.telem.accumulate l r := rfl
@[simp] theorem State.finishFrame_voices (s : State) (l r : OutSample) : (s.finishFrame l r).voices = s.voices := rfl
@[simp] theorem State.finishFrame_stream (s : State) (l r : OutSample) : (s.finishFrame l r).stream = s.stream := rfl
@[simp] theorem State.finishFrame_reads (s : State) (l r : OutSample) : (s.finishFrame l r).reads = s.reads := rfl
@[simp] theorem State.finishFrame_frames (s : State) (l r : OutSample) : (s.finishFrame l r).frames = s.frames ++ [(l, r)] := rfl

@[simp] theorem State.frameEnabled_cmdErr (s : State) : s.frameEnabled.cmdErr = s.cmdErr := by
  simp [State.frameEnabled]
@[simp] theorem State.frameEnabled_busErr (s : State) : s.frameEnabled.busErr = s.busErr := by
  simp [State.frameEnabled]
@[simp] theorem State.frameEnabled_params (s : State) : s.frameEnabled.params = s.params := by
  simp [State.frameEnabled]
@[simp] theorem State.frameEnabled_lfoPhase (s : State) : s.frameEnabled.lfoPhase = s.lfoPhase + s.params.lfoInc := by
  simp [State.frameEnabled]
@[simp] theorem State.frameEnabled_frameCount (s : State) : s.frameEnabled.frameCount = s.frameCount + 1 := by
  simp [State.frameEnabled]
@[simp] theorem State.frameEnabled_outL (s : State) : s.frameEnabled.outL = s.frameLeft := by
  simp [State.frameEnabled]
@[simp] theorem State.frameEnabled_outR (s : State) : s.frameEnabled.outR = s.frameRight := by
  simp [State.frameEnabled]
@[simp] theorem State.frameEnabled_telem (s : State) : s.frameEnabled.telem = s.telem.accumulate s.frameLeft s.frameRight := by
  simp [State.frameEnabled]
@[simp] theorem State.frameEnabled_voices (s : State) : s.frameEnabled.voices = turnVoices s.turns := by
  simp [State.frameEnabled]
@[simp] theorem State.frameEnabled_stream (s : State) : s.frameEnabled.stream = s.stream := by
  simp [State.frameEnabled]
@[simp] theorem State.frameEnabled_reads (s : State) : s.frameEnabled.reads = s.reads := by
  simp [State.frameEnabled]
@[simp] theorem State.frameEnabled_frames (s : State) : s.frameEnabled.frames = s.frames ++ [(s.frameLeft, s.frameRight)] := by
  simp [State.frameEnabled]

@[simp] theorem State.frameDisabled_cmdErr (s : State) : s.frameDisabled.cmdErr = s.cmdErr := rfl
@[simp] theorem State.frameDisabled_busErr (s : State) : s.frameDisabled.busErr = s.busErr := rfl
@[simp] theorem State.frameDisabled_params (s : State) : s.frameDisabled.params = s.params := rfl
@[simp] theorem State.frameDisabled_lfoPhase (s : State) : s.frameDisabled.lfoPhase = s.lfoPhase := rfl
@[simp] theorem State.frameDisabled_frameCount (s : State) : s.frameDisabled.frameCount = s.frameCount := rfl
@[simp] theorem State.frameDisabled_outL (s : State) : s.frameDisabled.outL = 0 := rfl
@[simp] theorem State.frameDisabled_outR (s : State) : s.frameDisabled.outR = 0 := rfl
@[simp] theorem State.frameDisabled_telem (s : State) : s.frameDisabled.telem = s.telem := rfl
@[simp] theorem State.frameDisabled_voices (s : State) : s.frameDisabled.voices = s.voices := rfl
@[simp] theorem State.frameDisabled_stream (s : State) : s.frameDisabled.stream = s.stream := rfl
@[simp] theorem State.frameDisabled_reads (s : State) : s.frameDisabled.reads = s.reads := rfl
@[simp] theorem State.frameDisabled_frames (s : State) : s.frameDisabled.frames = s.frames ++ [(0, 0)] := rfl

/-- Each voice after an enabled frame is the voice of its turn. -/
theorem State.frameEnabled_get (s : State) (v : Fin NV) :
    s.frameEnabled.voices[v] = (voiceTurn s.params (lfoValue s.lfoPhase) v.val s.voices[v]).voice := by
  simp

/-- The voice that a sounding turn leaves. -/
@[simp] theorem soundVoice_voice (p : Params) (lfo osc : Int) (x : Voice) :
    (soundVoice p lfo osc x).voice = x.afterPath (pathTurn p lfo (scaleByLevel osc x.vlevel) x) := rfl

/-- The envelope that a signal path leaves is one ADSR step (R198). -/
@[simp] theorem pathTurn_adsr (p : Params) (lfo banked : Int) (x : Voice) :
    (pathTurn p lfo banked x).adsr = x.adsr.step p := rfl

/-- The noise state that a signal path leaves is one noise step (R198). -/
@[simp] theorem pathTurn_noise (p : Params) (lfo banked : Int) (x : Voice) :
    (pathTurn p lfo banked x).noise = noiseStep p.noiseSel x.vnstate x.path.pink x.path.ms1 x.path.ms2 := rfl

/-- The white generator's state after a noise step (R320, R323). -/
@[simp] theorem noiseStep_vnstate (c : NoiseColor) (n : Word) (b : PinkTaps) (m1 m2 : Word) :
    (noiseStep c n b m1 m2).vnstate = xorshift n := rfl

/-- The outcomes of an ADSR step, one for each stage (R247 to R252). -/
theorem adsrStep_cases (p : Params) (a : Adsr) :
    (a.stage = .idle ∧ a.step p = a) ∨ (a.stage = .delay ∧ a.step p = a.stepDelay p) ∨
      (a.stage = .attack ∧ a.step p = a.stepAttack p) ∨ (a.stage = .decay ∧ a.step p = a.stepDecay p) ∨
      (a.stage = .sustain ∧ a.step p = a.stepSustain p) ∨ (a.stage = .release ∧ a.step p = a.stepRelease p) := by
  cases h : a.stage <;> simp [Adsr.step, h]

end Sys2Proof.Machine
end

