-- ==== Sys2Proof/Laws/Ops.lean ====
section
/-! SUPPORT. What the integer operators of Machine/Ops.lean can do: each lemma says once all that later proofs
need of an operator, so that none is unfolded again. -/

namespace Sys2Proof.Machine

/-- The arithmetic shift is the floor division by the power of two (R10). -/
theorem asr_eq_div (x : Int) (k : Nat) : asr x k = x / 2 ^ k := Int.shiftRight_eq_div_pow x k

/-- A shift result times the power of two is the largest such multiple not above the operand. -/
theorem asr_bounds (x : Int) (k : Nat) : 2 ^ k * asr x k ≤ x ∧ x < 2 ^ k * (asr x k + 1) := by
  have h : (0 : Int) < 2 ^ k := by positivity
  rw [asr_eq_div]
  exact ⟨Int.mul_ediv_self_le h.ne', by have := Int.lt_mul_ediv_self_add (x := x) h; linarith⟩

/-- A clamp result lies in the interval. -/
theorem clamp_mem {lo hi : Int} (h : lo ≤ hi) (x : Int) : lo ≤ clamp x lo hi ∧ clamp x lo hi ≤ hi := by
  unfold clamp; omega

/-- A value inside the interval is its own clamp. -/
theorem clamp_eq_self {x lo hi : Int} (h1 : lo ≤ x) (h2 : x ≤ hi) : clamp x lo hi = x := by
  unfold clamp; omega

/-- Saturation gives a 32-bit value. -/
theorem sat32_mem (x : Int) : -2147483648 ≤ sat32 x ∧ sat32 x ≤ 2147483647 := clamp_mem (by decide) x

/-- A 32-bit value is not saturated. -/
theorem sat32_eq_self {x : Int} (h1 : -2147483648 ≤ x) (h2 : x ≤ 2147483647) : sat32 x = x := clamp_eq_self h1 h2

/-- A product with a gain is a 32-bit value. -/
theorem gmul_mem (x g : Int) : -2147483648 ≤ gmul x g ∧ gmul x g ≤ 2147483647 := sat32_mem _

/-- A 32-bit value survives being held in a word. -/
theorem ofSample_toInt {x : Int} (h1 : -2147483648 ≤ x) (h2 : x ≤ 2147483647) : (ofSample x).toInt = x := by
  simp only [ofSample, BitVec.toInt_ofInt]
  rw [Int.bmod_eq_of_le] <;> omega

/-- A saturated value survives being held in a word. -/
@[simp] theorem ofSample_sat32_toInt (x : Int) : (ofSample (sat32 x)).toInt = sat32 x :=
  ofSample_toInt (sat32_mem x).1 (sat32_mem x).2

/-- A register field is a natural number below its width's power of two. -/
theorem ofField_mem {w : Nat} (b : BitVec w) : 0 ≤ ofField b ∧ ofField b < 2 ^ w := by
  refine ⟨Int.natCast_nonneg _, ?_⟩
  have := b.isLt
  unfold ofField
  exact_mod_cast this

/-- A level in range survives being held in E. -/
theorem ofLevel_toNat {x : Int} (h1 : 0 ≤ x) (h2 : x < 131072) : ((ofLevel x).toNat : Int) = x := by
  simp only [ofLevel, BitVec.toNat_ofInt]
  omega

/-- The saturating increment as a number. -/
theorem satInc_toNat (w : Word) : (satInc w).toNat = min (w.toNat + 1) 4294967295 := by
  simp only [satInc, BitVec.toNat_ofNat]
  omega

/-- Interpolating upwards stays between the two entries. -/
theorem lerp_mem_up {a b : Int} {f k : Nat} (hab : a ≤ b) (hf : f < 2 ^ k) :
    a ≤ lerp a b f k ∧ lerp a b f k ≤ b := by
  have hf' : (f : Int) < 2 ^ k := by exact_mod_cast hf
  have hp : (0 : Int) < 2 ^ k := by positivity
  have hb := asr_bounds ((b - a) * (f : Int)) k
  have h0 : 0 ≤ (b - a) * (f : Int) := mul_nonneg (by omega) (by omega)
  have h1 : (b - a) * (f : Int) ≤ (b - a) * 2 ^ k := mul_le_mul_of_nonneg_left hf'.le (by omega)
  have lo : 0 ≤ asr ((b - a) * (f : Int)) k := by
    rw [asr_eq_div]; exact Int.ediv_nonneg h0 hp.le
  have hi : asr ((b - a) * (f : Int)) k ≤ b - a := by
    by_contra hc
    have : 2 ^ k * (b - a + 1) ≤ 2 ^ k * asr ((b - a) * (f : Int)) k :=
      mul_le_mul_of_nonneg_left (by omega) hp.le
    linarith [hb.1]
  unfold lerp
  omega

/-- Interpolating downwards stays between the two entries. -/
theorem lerp_mem_down {a b : Int} {f k : Nat} (hab : b ≤ a) (hf : f < 2 ^ k) :
    b ≤ lerp a b f k ∧ lerp a b f k ≤ a := by
  have hf' : (f : Int) < 2 ^ k := by exact_mod_cast hf
  have hp : (0 : Int) < 2 ^ k := by positivity
  have hb := asr_bounds ((b - a) * (f : Int)) k
  have h0 : (b - a) * (f : Int) ≤ 0 := mul_nonpos_of_nonpos_of_nonneg (by omega) (by omega)
  have h1 : (b - a) * 2 ^ k ≤ (b - a) * (f : Int) := mul_le_mul_of_nonpos_left hf'.le (by omega)
  have hi : asr ((b - a) * (f : Int)) k ≤ 0 := by
    by_contra hc
    have : 2 ^ k * 1 ≤ 2 ^ k * asr ((b - a) * (f : Int)) k := mul_le_mul_of_nonneg_left (by omega) hp.le
    linarith [hb.1]
  have lo : b - a ≤ asr ((b - a) * (f : Int)) k := by
    by_contra hc
    have : 2 ^ k * (asr ((b - a) * (f : Int)) k + 1) ≤ 2 ^ k * (b - a) :=
      mul_le_mul_of_nonneg_left (by omega) hp.le
    linarith [hb.2]
  unfold lerp
  omega

end Sys2Proof.Machine
end

