-- ==== Sys2Proof/Laws/PerInstr.lean ====
section
/-! SUPPORT. The families of statements about instructions as syntax, one lemma for each constructor. -/

namespace Sys2Proof.Laws

/-- The KIND field of each instruction's word is one of the three that R131 defines, and is the one of its
operation: a command is a WR (R135). -/
def EncodeKind.Statement (i : Instr) : Prop :=
  (encode i).kind =
    match i with
    | .rd _ => 0b00#2
    | .tick => 0b10#2
    | .wr _ _ | .nop | .prepare | .telemClear | .voiceStart _ | .voiceRelease _ | .voiceRetrigger _
    | .voiceStop _ => 0b01#2

/-- The KIND of a packed word is the KIND it was packed with (R130). -/
theorem How.kind_pack (k : BitVec 2) (a : Addr) (d : Word) : (How.pack k a d).kind = k := by
  apply BitVec.eq_of_getLsbD_eq
  intro i hi
  simp only [How.kind, How.pack, BitVec.getLsbD_extractLsb', BitVec.getLsbD_append]
  have h1 : ¬(48 + i < 32) := by omega
  have h2 : ¬(48 + i - 32 < 16) := by omega
  have h3 : 48 + i - 32 - 16 = i := by omega
  simp [h1, h2, h3, hi]

theorem EncodeKind.rd (a : Addr) : EncodeKind.Statement (.rd a) := How.kind_pack _ _ _
theorem EncodeKind.wr (a : Addr) (d : Word) : EncodeKind.Statement (.wr a d) := How.kind_pack _ _ _
theorem EncodeKind.tick : EncodeKind.Statement .tick := How.kind_pack _ _ _
theorem EncodeKind.nop : EncodeKind.Statement .nop := How.kind_pack _ _ _
theorem EncodeKind.prepare : EncodeKind.Statement .prepare := How.kind_pack _ _ _
theorem EncodeKind.telemClear : EncodeKind.Statement .telemClear := How.kind_pack _ _ _
theorem EncodeKind.voiceStart (v : BitVec 8) : EncodeKind.Statement (.voiceStart v) := How.kind_pack _ _ _
theorem EncodeKind.voiceRelease (v : BitVec 8) : EncodeKind.Statement (.voiceRelease v) := How.kind_pack _ _ _
theorem EncodeKind.voiceRetrigger (v : BitVec 8) : EncodeKind.Statement (.voiceRetrigger v) := How.kind_pack _ _ _
theorem EncodeKind.voiceStop (v : BitVec 8) : EncodeKind.Statement (.voiceStop v) := How.kind_pack _ _ _

end Sys2Proof.Laws
end

