-- ==== Sys2Proof/Laws/Registers.lean ====
section
/-! SUPPORT. What a command, a register read and a register write can do: one lemma for each shared operation
that lists all its outcomes. -/

namespace Sys2Proof.Machine

open Sys2Proof.Config

/-- A voice command changes the one voice it names, or is rejected (R163). -/
theorem voiceCommand_cases (s : State) (v : BitVec 8) (f : Voice → Voice) :
    (∃ h : v.toNat < NV, s.voiceCommand v f = s.updVoice ⟨v.toNat, h⟩ f) ∨
      (NV ≤ v.toNat ∧ s.voiceCommand v f = s.flagCmdErr) := by
  unfold State.voiceCommand
  split
  · next h => exact .inl ⟨h, rfl⟩
  · next h => exact .inr ⟨by omega, rfl⟩

/-- The outcomes of a word written to CMD (R163). -/
theorem command_cases (s : State) (w : Word) :
    s.command w = s.flagCmdErr ∨ s.command w = s ∨ s.command w = s.prepare ∨ s.command w = s.telemClear ∨
      (∃ f, (f = Voice.start s.params ∨ f = Voice.release ∨ f = Voice.retrigger s.params ∨ f = Voice.stop) ∧
        s.command w = s.voiceCommand (cmdVoice w) f) := by
  unfold State.command
  split
  · exact .inl rfl
  split
  · exact .inr (.inl rfl)
  split
  · exact .inr (.inr (.inl rfl))
  split
  · exact .inr (.inr (.inr (.inl rfl)))
  split
  · exact .inr (.inr (.inr (.inr ⟨_, .inl rfl, rfl⟩)))
  split
  · exact .inr (.inr (.inr (.inr ⟨_, .inr (.inl rfl), rfl⟩)))
  split
  · exact .inr (.inr (.inr (.inr ⟨_, .inr (.inr (.inl rfl)), rfl⟩)))
  split
  · exact .inr (.inr (.inr (.inr ⟨_, .inr (.inr (.inr rfl)), rfl⟩)))
  · exact .inl rfl

/-- The side effects a read can have (R108). -/
theorem readEffect_cases (s : State) (r : Reg) :
    readEffect s r = s.latchL ∨ readEffect s r = s.latchR ∨ readEffect s r = s := by
  unfold readEffect
  split
  · exact .inl rfl
  split
  · exact .inr (.inl rfl)
  · exact .inr (.inr rfl)

/-- The states an RD can leave, its returned value apart (R160). -/
theorem readState_cases (a : Addr) (s : State) :
    (accessReg a = none ∧ readState a s = s.flagBusErr) ∨
      (∃ r, accessReg a = some r ∧ readState a s = readEffect s r) := by
  unfold readState
  split
  · next h => exact .inl ⟨h, rfl⟩
  · next r h => exact .inr ⟨r, h, rfl⟩

/-- What a write to a register that is not RO can do (R161). -/
theorem writeReg_cases (s : State) (r : Reg) (d : Word) :
    (r = .glob .cmd ∧ writeReg s r d = s.command d) ∨
      (r = .glob .status ∧ writeReg s r d = s.clearStatus d) ∨
      (r = .glob .lfoPhase ∧ writeReg s r d = s.setLfoPhase d) ∨
      (∃ g, r = .glob g ∧ writeReg s r d = s.setParams (writeParam s.params g d)) ∨
      (∃ dst src, r = .modDepth dst src ∧ writeReg s r d = s.setParams (writeDepth s.params dst src d)) ∨
      (∃ v q, r = .voice v q ∧ writeReg s r d = s.updVoice v (fun x => writeVoice x q d)) := by
  match r with
  | .modDepth dst src => exact .inr (.inr (.inr (.inr (.inl ⟨dst, src, rfl, rfl⟩))))
  | .voice v q => exact .inr (.inr (.inr (.inr (.inr ⟨v, q, rfl, rfl⟩))))
  | .glob g =>
    cases g
    case cmd => exact .inl ⟨rfl, rfl⟩
    case status => exact .inr (.inl ⟨rfl, rfl⟩)
    case lfoPhase => exact .inr (.inr (.inl ⟨rfl, rfl⟩))
    all_goals exact .inr (.inr (.inr (.inl ⟨_, rfl, rfl⟩)))

/-- The states a WR can leave (R161). -/
theorem writeState_cases (a : Addr) (d : Word) (s : State) :
    writeState a d s = s.flagBusErr ∨
      (∃ r, accessReg a = some r ∧ r.readOnly = false ∧ writeState a d s = writeReg s r d) := by
  unfold writeState
  split
  · exact .inl rfl
  · next r h =>
    split
    · exact .inl rfl
    · next hr => exact .inr ⟨r, h, by simpa using hr, rfl⟩

/-- The four byte lanes make up the word (R107). -/
theorem laneByte_append (w : Word) : laneByte w 3 ++ laneByte w 2 ++ laneByte w 1 ++ laneByte w 0 = w := by
  apply BitVec.eq_of_getLsbD_eq
  intro i hi
  simp only [laneByte, BitVec.getLsbD_append, BitVec.getLsbD_extractLsb']
  by_cases h0 : i < 8
  · simp [h0]
  by_cases h1 : i - 8 < 8
  · have e : 8 + (i - 8) = i := by omega
    simp [h0, h1, e]
  by_cases h2 : i - 8 - 8 < 8
  · have e : 16 + (i - 8 - 8) = i := by omega
    simp [h0, h1, h2, e]
  · have h3 : i - 8 - 8 - 8 < 8 := by omega
    have e : 24 + (i - 8 - 8 - 8) = i := by omega
    simp [h0, h1, h2, h3, e]

end Sys2Proof.Machine
end

