-- ==== Sys2Proof/Laws/Step.lean ====
section
/-! SUPPORT. What a step can do: it holds the state with no operation waiting, or runs the decoded instruction;
and the state each instruction answers. -/

namespace Sys2Proof.Machine

/-- If a step answers a next state, no operation was waiting, or it ran the decoded one. -/
theorem step_cases {s t : State} (h : step s = .next t) :
    (s.stream = [] ∧ t = s) ∨
      (∃ w rest i, s.stream = w :: rest ∧ decode w = .ok i ∧ exec i { s with stream := rest } = .next t) := by
  unfold step State.nextWord at h
  match hs : s.stream with
  | [] =>
    simp only [hs, List.head?_nil] at h
    injection h with h
    exact .inl ⟨rfl, h.symm⟩
  | w :: rest =>
    simp only [hs, List.head?_cons] at h
    match hd : decode w with
    | .error e => cases e; simp [hd] at h
    | .ok i =>
      refine .inr ⟨w, rest, i, rfl, hd, ?_⟩
      simpa [hd, State.consume, hs] using h

@[simp] theorem exec_rd (a : Addr) (s : State) :
    exec (.rd a) s = .next ((readState a s).returnWord (readData a s)) := rfl
@[simp] theorem exec_wr (a : Addr) (d : Word) (s : State) : exec (.wr a d) s = .next (writeState a d s) := rfl
@[simp] theorem exec_tick (s : State) : exec .tick s = .next s.frame := rfl
@[simp] theorem exec_nop (s : State) : exec .nop s = .next s := rfl
@[simp] theorem exec_prepare (s : State) : exec .prepare s = .next s.prepare := rfl
@[simp] theorem exec_telemClear (s : State) : exec .telemClear s = .next s.telemClear := rfl
@[simp] theorem exec_voiceStart (v : BitVec 8) (s : State) :
    exec (.voiceStart v) s = .next (s.voiceCommand v (Voice.start s.params)) := rfl
@[simp] theorem exec_voiceRelease (v : BitVec 8) (s : State) :
    exec (.voiceRelease v) s = .next (s.voiceCommand v Voice.release) := rfl
@[simp] theorem exec_voiceRetrigger (v : BitVec 8) (s : State) :
    exec (.voiceRetrigger v) s = .next (s.voiceCommand v (Voice.retrigger s.params)) := rfl
@[simp] theorem exec_voiceStop (v : BitVec 8) (s : State) :
    exec (.voiceStop v) s = .next (s.voiceCommand v Voice.stop) := rfl

end Sys2Proof.Machine
end

