-- ==== Sys2Proof/Machine/Assembler.lean ====
section
/-! DEFINITION. The lines of a program text and the operation words they stand for (R140, R141). Reading the
text itself is not the machine's; a line is taken here with its names already resolved. -/

namespace Sys2Proof.Machine

open Sys2Proof.Config

/-- The partial arrays a `wrp` line can name (R141). -/
inductive PartialArray where
  | pinc | pamp | phase
deriving DecidableEq, Repr

/-- The lines of a program (R140) and its pseudo-instructions (R141). -/
inductive Line where
  /-- `rd ADDR`. -/
  | rd (addr : Addr)
  /-- `wr ADDR, DATA`. -/
  | wr (addr : Addr) (data : Word)
  /-- `tick`. -/
  | tick
  /-- `cmd OP`, a global command. -/
  | cmd (op : BitVec 8)
  /-- `cmd OP v`, a voice command. -/
  | cmdVoice (op voice : BitVec 8)
  /-- `tick N`. -/
  | ticks (n : Nat)
  /-- `wrv v, NAME, DATA`. -/
  | wrv (v : Fin NV) (r : VReg) (data : Word)
  /-- `wrp v, ARR, p, DATA`. -/
  | wrp (v : Fin NV) (arr : PartialArray) (p : Fin NP) (data : Word)
  /-- `clr`, which clears both STATUS bits. -/
  | clr
deriving DecidableEq, Repr

/-- `base(ARR) + 4p` (R141). -/
def PartialArray.offset (arr : PartialArray) (p : Fin NP) : Nat :=
  match arr with
  | .pinc => 0x100 + 4 * p.val
  | .pamp => 0x200 + 4 * p.val
  | .phase => 0x300 + 4 * p.val

/-- The word of a WR (R130, R140). -/
def wrWord (addr : Nat) (data : Word) : How := How.pack 0b01#2 (BitVec.ofNat 16 addr) data

/-- The operation words of a line: DATA is 0 for `rd` and `tick` (R140), and each pseudo-instruction expands
before encoding (R141). -/
def Line.expand : Line → List How
  | .rd a => [How.pack 0b00#2 a 0#32]
  | .wr a d => [How.pack 0b01#2 a d]
  | .tick => [How.pack 0b10#2 0#16 0#32]
  | .cmd op => [wrWord 0x0004 (op.setWidth 32)]
  | .cmdVoice op v => [wrWord 0x0004 ((v.setWidth 32 <<< 8) ||| op.setWidth 32)]
  | .ticks n => List.replicate n (How.pack 0b10#2 0#16 0#32)
  | .wrv v r d => [wrWord (voiceBase v.val + r.offset) d]
  | .wrp v arr p d => [wrWord (voiceBase v.val + arr.offset p) d]
  | .clr => [wrWord 0x000C 3#32]

/-- The operation words of a program. -/
def assemble (lines : List Line) : List How := lines.flatMap Line.expand

end Sys2Proof.Machine
end

