-- ==== Sys2Proof/Tests/Slice0.lean ====
section
/-! SUPPORT. Tests: the ill-formed term, the words that the spec writes out, one or two steps for each instruction,
and a witness for every statement that has hypotheses. Expected values are those of 95_test_vectors.md and of the
rules that each test names. -/

namespace Sys2Proof.Tests

open Sys2Proof.Config Sys2Proof.Machine Sys2Proof.Claims

/-! Well-formedness: the one check refuses every command word, and nothing else. -/

theorem test_wf_refuses_command_as_wr : (Instr.wr 0x0004 0x310).wf = false := by decide
theorem test_wf_refuses_nop_as_wr : (Instr.wr 0x0004 0xC800).wf = false := by decide
theorem test_wf_admits_reserved_op : (Instr.wr 0x0004 0x14).wf = true := by decide
theorem test_wf_admits_rsvd : (Instr.wr 0x0004 0x00010010).wf = true := by decide
theorem test_wf_admits_other_address : (Instr.wr 0x0008 0x310).wf = true := by decide

/-! Decoding, from the words of L2.1 and L2.4. -/

theorem test_decode_rd_id : decode 0x0000000000000 = .ok (.rd 0x0000) := by decide
theorem test_decode_rd_vactive : decode 0x0007400000000 = .ok (.rd 0x0074) := by decide
theorem test_decode_wr_ctrl : decode 0x1000800000001 = .ok (.wr 0x0008 1) := by decide
theorem test_decode_wr_depth : decode 0x1012CFFFF8000 = .ok (.wr 0x012C 0xFFFF8000) := by decide
theorem test_decode_tick : decode 0x2000000000000 = .ok .tick := by decide
theorem test_decode_nop_200 : decode 0x100040000C800 = .ok .nop := by decide
theorem test_decode_prepare : decode 0x1000400000001 = .ok .prepare := by decide
theorem test_decode_telem_clear : decode 0x1000400000002 = .ok .telemClear := by decide
theorem test_decode_voice_start : decode 0x1000400000310 = .ok (.voiceStart 3) := by decide
theorem test_decode_voice_release : decode 0x1000400000011 = .ok (.voiceRelease 0) := by decide
/-- OP = 0x12, VOICE = 5 (R135, R136). -/
theorem test_decode_voice_retrigger : decode 0x1000400000512 = .ok (.voiceRetrigger 5) := by decide
theorem test_decode_voice_stop : decode 0x1000400000213 = .ok (.voiceStop 2) := by decide
/-- C-4: an index of NV is still the voice command. -/
theorem test_decode_voice_16 : decode 0x1000400001010 = .ok (.voiceStart 16) := by decide
/-- C-2: a reserved OP is a WR to CMD. -/
theorem test_decode_reserved_op : decode 0x1000400000003 = .ok (.wr 0x0004 3) := by decide
theorem test_decode_kind_11 : decode 0x3000000000000 = .error .reservedKind := by decide
/-- R132, R134: the ignored fields are ignored. -/
theorem test_decode_ignored_fields :
    decode 0x0007412345678 = .ok (.rd 0x0074) ∧ decode 0x21234DEADBEEF = .ok .tick := by decide

/-- The assembler lines of L2.1 give the words of L2.1 (R140, R141). -/
theorem test_assemble :
    assemble [.wrv 2 .vpan 65536, .wrp 1 .pamp 0 32768, .clr, .cmdVoice 0x10 3, .cmd 0x01, .ticks 2] =
      [0x1180C00010000, 0x1160000008000, 0x1000C00000003, 0x1000400000310, 0x1000400000001, 0x2000000000000,
        0x2000000000000] := by decide

/-! One step of each instruction. -/

/-- The state of an outcome, for reading one field of it. -/
def after (o : Host.Outcome State Fault Refusal) : State :=
  match o with
  | .next s => s
  | .fault _ => State.reset
  | .refused _ => State.reset

/-- The state after one step with the given word waiting. -/
def ran (w : How) (s : State) : State := after (step { s with stream := [w] })

/-- A state with both flags set. -/
def flagged : State := { State.reset with cmdErr := true, busErr := true }

/-- Enabled, with the short envelope of program 2 (L3). -/
def enabled : State :=
  { State.reset with
    params :=
      { Params.reset with
        en := true, envAttack := 4, envDecay := 4, envSustain := 32768, envOvershoot := 81920, envRelease := 3 } }

/-- Voice 0 of program 2 with a given envelope. -/
def tone (a : Adsr) : Voice :=
  { Voice.reset 0 with
    active := true
    adsr := a
    vlevel := 0x80000000
    pinc := (Voice.reset 0).pinc.set 0 0x04000000
    pamp := (Voice.reset 0).pamp.set 0 32768
    phase := (Voice.reset 0).phase.set 0 0x10000000 }

/-- `s` with voice 0 replaced. -/
def withVoice (s : State) (x : Voice) : State := { s with voices := s.voices.set 0 x }

/-- The start of program 2, line 13. -/
def sounding : State := withVoice enabled (tone ⟨.attack, 0, 0, 0⟩)

theorem test_rd_misaligned :
    (ran 0x0000200000000 State.reset).reads = [0] ∧ (ran 0x0000200000000 State.reset).statusWord = 2 := by decide
theorem test_rd_vnstate :
    (ran 0x0142000000000 State.reset).reads = [0xC37D6E4A] ∧
      (ran 0x0142000000000 State.reset).statusWord = 0 := by decide
theorem test_wr_overshoot_clamps : (ran 0x1004000000002 State.reset).params.envOvershoot = 65536 := by decide
theorem test_wr_status_clears_one : (ran 0x1000C00000001 flagged).statusWord = 2 := by decide
/-- C-5. -/
theorem test_nop : (ran 0x100040000C800 flagged).statusWord = 3 := by decide
/-- C-14. -/
theorem test_prepare :
    (ran 0x1000400000001 sounding).vactive = 0 ∧
      readValue (ran 0x1000400000001 sounding) (.voice 0 (.phase 0)) = 0x10000000 := by decide +kernel
/-- C-15. -/
theorem test_telem_clear :
    readValue (ran 0x1000400000002 { State.reset with telem := { Telem.reset with peakR := 0x718848 } })
      (.glob .peakR) = 0 := by decide
/-- C-7 and C-8. -/
theorem test_voice_start :
    readValue (ran 0x1000400000010 State.reset) (.voice 0 .vstat) = 5 ∧
      readValue (ran 0x1000400000010
        { State.reset with params := { Params.reset with envDelay := 2 } }) (.voice 0 .vstat) = 3 := by decide +kernel
/-- C-4. -/
theorem test_voice_start_16 :
    (ran 0x1000400001010 State.reset).statusWord = 1 ∧ (ran 0x1000400001010 State.reset).vactive = 0 := by
  decide +kernel
/-- C-11. -/
theorem test_voice_release :
    readValue (ran 0x1000400000011 (withVoice enabled (tone ⟨.sustain, 32768, 0, 81920⟩))) (.voice 0 .vstat) = 11 := by
  decide +kernel
/-- C-12. -/
theorem test_voice_retrigger :
    ((ran 0x1000400000012 (withVoice enabled (tone ⟨.release, 20000, 1, 32768⟩))).voices[0]).adsr =
      ⟨.attack, 20000, 0, 20000⟩ := by decide +kernel
/-- C-13: VAGE stays. -/
theorem test_voice_stop :
    readValue (ran 0x1000400000013 (withVoice enabled { tone ⟨.sustain, 32768, 0, 81920⟩ with vage := 2 }))
      (.voice 0 .vage) = 2 ∧
    (ran 0x1000400000013 (withVoice enabled (tone ⟨.sustain, 32768, 0, 81920⟩))).vactive = 0 := by decide +kernel
/-- Frame 1 of program 2. -/
theorem test_tick_program2_frame1 : (ran 0x2000000000000 sounding).frames = [(1255537, 1255537)] := by
  decide +kernel
/-- Frame 2 of program 3, panned hard left: voice 1 as frame 1 leaves it, here in slot 0. -/
theorem test_tick_program3_frame2 :
    (ran 0x2000000000000
      (withVoice
        { State.reset with params := { Params.reset with en := true, vthresh := 0x40000000, envAttack := 1 } }
        { Voice.reset 1 with
          active := true, adsr := ⟨.decay, 72090, 0, 72090⟩, vlevel := 0x6AAAAAAA, vdecay := 0x15555556, vpan := 0
          pinc := (Voice.reset 1).pinc.set 0 0x02000000
          pamp := (Voice.reset 1).pamp.set 0 32768
          phase := (Voice.reset 1).phase.set 0 0x02000000 })).frames = [(307973, 0)] := by
  decide +kernel
/-- R131: a word of KIND 11 stops the step by name. -/
theorem test_kind_11_refused :
    step { State.reset with stream := [0x3000000000000] } = .refused .reservedKind := rfl

/-! Witnesses: for each statement with hypotheses, concrete values that meet them, one for each clause and at the
boundaries of the clauses' ranges. -/

theorem witness_DecodeEncodeRoundTrip :
    (Instr.wr 0x0004 0x00010010).wf = true ∧ (Instr.voiceStop 255).wf = true ∧ (Instr.rd 0xFFFF).wf = true := by
  decide

theorem witness_DecodedInstructionReencodes :
    decode 0x1000400000310 = .ok (.voiceStart 3) ∧ How.kind 0x1000400000310 = 1 ∧
      (0x03 ≤ (cmdOp (How.data 0x1000400000310)).toNat) ∧ decode 0x1000400000001 = .ok .prepare ∧
      cmdVoice (How.data 0x1000400000001) = 0 ∧ decode 0x100040001C801 = .ok (.wr 0x0004 0x1C801) ∧
      cmdRsvd (How.data 0x100040001C801) ≠ 0 ∧ How.addr 0x1000800000001 ≠ 4 := by decide

theorem witness_DecodeFollowsTheTable :
    (0x0FFFFFFFFFFFF#50 &&& 0x3000000000000 = 0x0) ∧ (0x2FFFFFFFFFFFF#50 &&& 0x3000000000000 = 0x2000000000000) ∧
      (0x100040000FF00#50 &&& 0x3ffffffff00ff = 0x1000400000000) ∧
      (0x100040000FF01#50 &&& 0x3ffffffff00ff = 0x1000400000001) ∧
      (0x100040000FF02#50 &&& 0x3ffffffff00ff = 0x1000400000002) ∧
      (0x100040000FF10#50 &&& 0x3ffffffff00ff = 0x1000400000010) ∧
      (0x100040000FF11#50 &&& 0x3ffffffff00ff = 0x1000400000011) ∧
      (0x100040000FF12#50 &&& 0x3ffffffff00ff = 0x1000400000012) ∧
      (0x100040000FF13#50 &&& 0x3ffffffff00ff = 0x1000400000013) ∧
      (0x1FFFFFFFFFFFF#50 &&& 0x3000000000000 = 0x1000000000000) ∧
      ∀ op ∈ [0x00#50, 0x01, 0x02, 0x10, 0x11, 0x12, 0x13],
        0x1FFFFFFFFFFFF#50 &&& 0x3ffffffff00ff ≠ 0x1000400000000 + op := by
  simp only [List.forall_mem_cons, List.not_mem_nil, false_implies, implies_true]
  decide +kernel

theorem witness_KindSelectsOperation :
    How.kind 0x0FFFFFFFFFFFF = 0 ∧ How.kind 0x1FFFFFFFFFFFF = 1 ∧ How.kind 0x2FFFFFFFFFFFF = 2 ∧
      How.kind 0x3FFFFFFFFFFFF = 3 ∧
      ({ State.reset with stream := [0x3000000000000] } : State).stream = 0x3000000000000 :: [] := by decide

theorem witness_StepRunsDecodedInstruction :
    ({ State.reset with stream := [0x2000000000000, 0] } : State).stream = 0x2000000000000 :: [0] ∧
      decode 0x2000000000000 = .ok .tick := by decide

theorem witness_StreamDrivesSteps :
    State.reset.stream = [] ∧ decodeTableWord 56 0x1000400000310 = some (.voiceStart 3) := by decide

/-- The start of program 2 with a tick waiting is a legal state, and its step answers a next state. -/
theorem witness_StepKeepsLegal :
    ({ sounding with stream := [0x2000000000000] } : State).Legal ∧
      ∃ t, step { sounding with stream := [0x2000000000000] } = .next t := by
  refine ⟨⟨?_, ?_, ⟨by decide, by decide⟩⟩, ⟨_, rfl⟩⟩
  · constructor
    case modDepth =>
      show ∀ k : Fin 12, -65536 ≤ ((Params.reset.modDepth[k] : Word)).toInt ∧ ((Params.reset.modDepth[k] : Word)).toInt ≤ 65536
      decide
    all_goals decide
  · intro v
    exact
      { vpan := (by decide : ∀ v : Fin NV, ((sounding.voices[v]).vpan).toNat ≤ 65536) v
        vvel := (by decide : ∀ v : Fin NV, -65536 ≤ ((sounding.voices[v]).vvel).toInt ∧
          ((sounding.voices[v]).vvel).toInt ≤ 65536) v
        vpres := (by decide : ∀ v : Fin NV, -65536 ≤ ((sounding.voices[v]).vpres).toInt ∧
          ((sounding.voices[v]).vpres).toInt ≤ 65536) v
        vnstate := (by decide : ∀ v : Fin NV, (sounding.voices[v]).vnstate ≠ 0) v
        adsr :=
          { e := (by decide : ∀ v : Fin NV, ((sounding.voices[v]).adsr.e).toNat ≤ 81920) v
            sl := (by decide : ∀ v : Fin NV, ((sounding.voices[v]).adsr.sl).toNat ≤ 81920) v }
        activeIff := (by decide : ∀ v : Fin NV,
          (sounding.voices[v]).active = true ↔ (sounding.voices[v]).adsr.stage ≠ .idle) v }

theorem witness_ActiveExactlyWhenNotIdle :
    (∀ v : Fin NV, (sounding.voices[v]).active = true ↔ (sounding.voices[v]).adsr.stage ≠ .idle) ∧
      ∃ t, step { sounding with stream := [0x2000000000000] } = .next t := ⟨by decide, _, rfl⟩

theorem witness_MisalignedAccessRejected :
    BitVec.extractLsb' 0 2 0x0009#16 ≠ 0 ∧ BitVec.extractLsb' 0 2 0x0002#16 ≠ 0 ∧
      BitVec.extractLsb' 0 2 0xFFFF#16 ≠ 0 := by decide

/-- Both ends of every hole. -/
theorem witness_UnmappedAccessRejected :
    ∀ a ∈ [0x006C#16, 0x00A0, 0x00FC, 0x0130, 0x0FFC, 0x1024, 0x10FC, 0x4C24, 0x4CFC, 0x5000, 0xFFFC],
      a.extractLsb' 0 2 = 0 ∧ Unmapped a := by
  simp only [List.forall_mem_cons, List.not_mem_nil, false_implies, implies_true]
  and_intros <;> first | trivial | decide | (unfold Unmapped; decide)

/-- The mapped addresses next to the holes. -/
theorem witness_AddressNamesOneRegister :
    ∀ a ∈ [0x0000#16, 0x0068, 0x0070, 0x009C, 0x0100, 0x012C, 0x1000, 0x1020, 0x1100, 0x13FC, 0x4C20, 0x4FFC],
      a.extractLsb' 0 2 = 0 ∧ ¬Unmapped a := by
  simp only [List.forall_mem_cons, List.not_mem_nil, false_implies, implies_true]
  and_intros <;> first | trivial | decide | (unfold Unmapped; decide)

theorem witness_ReadOnlyWriteRejected :
    ReadOnlyReg (.glob .id) ∧ ReadOnlyReg (.glob .energyCount) ∧ ReadOnlyReg (.voice 15 .venv) := by
  refine ⟨.inl rfl, ?_, ?_⟩
  · unfold ReadOnlyReg; simp
  · unfold ReadOnlyReg; simp

/-- Each clamp at and beyond its ends, from L2.3. -/
theorem witness_WriteStoresLegalValueOnly :
    storedWord (.glob .vcap) 0xFFFFFFFF = some 16 ∧ storedWord (.glob .envAttack) 0 = some 1 ∧
      storedWord (.glob .envOvershoot) 0x80000000 = some 81920 ∧ storedWord (.glob .noiseSel) 0xFFFFFFFF = some 0 ∧
      storedWord (.modDepth 1 2) 0x80000000 = some 0xFFFF0000 ∧
      storedWord (.modDepth 2 3) 0x7FFFFFFF = some 0x00010000 ∧ storedWord (.voice 3 .vnstate) 0 = some 1 ∧
      storedWord (.voice 15 (.pamp 63)) 65536 = some 65535 := by decide

theorem witness_RepeatedWriteHasOneEffect :
    (0x000C#16 ≠ 0x0004) ∧ ∃ t, exec (.wr 0x000C 3) flagged = .next t := ⟨by decide, _, rfl⟩

/-- Both ends of every clause. -/
theorem witness_ReservedCommandRejected :
    (∀ w ∈ [0x00010010#32, 0xFFFF0000, 0x00000003, 0x0000000F, 0x00000014, 0x000000FF, 0x00001010, 0x0000FF13],
      ReservedCommand w) ∧ 16 ≤ (16#8).toNat ∧ 16 ≤ (255#8).toNat := by
  simp only [List.forall_mem_cons, List.not_mem_nil, false_implies, implies_true]
  unfold ReservedCommand
  decide +kernel

/-- The first and the last voice, for the four voice commands; voice 0 is active and voice 15 is not. -/
theorem witness_voice_commands :
    (0#8).toNat < NV ∧ (15#8).toNat < NV ∧ (sounding.voices[0]).active = true ∧
      (sounding.voices[15]).active = false := by decide

theorem witness_DisabledTickIsSilent : State.reset.params.en = false := rfl

theorem witness_EnabledTickAccounts : sounding.params.en = true := rfl

theorem witness_EnabledTickOutputsFinalStage :
    sounding.params.en = true ∧ ∃ t, exec .tick sounding = .next t := ⟨rfl, _, rfl⟩

/-- Not processed: disabled, at VCAP, or inactive. -/
theorem witness_UnprocessedVoiceHolds :
    ¬Processed State.reset 0 ∧ ¬Processed (withVoice { enabled with params.vcap := 0 } (tone ⟨.attack, 0, 0, 0⟩)) 0 ∧
      (¬Processed sounding 15 ∧ sounding.params.en = true) ∧ ∃ t, exec .tick sounding = .next t := by
  refine ⟨?_, ?_, ⟨?_, rfl⟩, _, rfl⟩ <;> (unfold Processed; decide)

theorem witness_ThresholdDeactivatesVoice :
    Processed (withVoice sounding { tone ⟨.sustain, 32768, 0, 0⟩ with vlevel := 214747 }) 0 ∧
      (loweredLevel { tone ⟨.sustain, 32768, 0, 0⟩ with vlevel := 214747 }).toNat < sounding.params.vthresh.toNat ∧
      ∃ t, exec .tick (withVoice sounding { tone ⟨.sustain, 32768, 0, 0⟩ with vlevel := 214747 }) = .next t := by
  refine ⟨?_, ?_, _, rfl⟩
  · unfold Processed; decide
  · unfold loweredLevel; decide

/-- At the threshold exactly. -/
theorem witness_ProcessedVoiceAdvances :
    Processed (withVoice sounding { tone ⟨.attack, 0, 0, 0⟩ with vlevel := 214748 }) 0 ∧
      sounding.params.vthresh.toNat ≤ (loweredLevel { tone ⟨.attack, 0, 0, 0⟩ with vlevel := 214748 }).toNat ∧
      ∃ t, exec .tick (withVoice sounding { tone ⟨.attack, 0, 0, 0⟩ with vlevel := 214748 }) = .next t := by
  refine ⟨?_, ?_, _, rfl⟩
  · unfold Processed; decide
  · unfold loweredLevel; decide

/-- Above the threshold, panned, with the punch path mixed in. -/
theorem witness_SoundingVoiceContributes :
    Processed (withVoice { sounding with params.punchMix := 65536 } { tone ⟨.decay, 65536, 1, 81920⟩ with vpan := 0 }) 0 ∧
      sounding.params.vthresh.toNat ≤ (loweredLevel { tone ⟨.decay, 65536, 1, 81920⟩ with vpan := 0 }).toNat ∧
      ∃ t, exec .tick (withVoice { sounding with params.punchMix := 65536 }
        { tone ⟨.decay, 65536, 1, 81920⟩ with vpan := 0 }) = .next t := by
  refine ⟨?_, ?_, _, rfl⟩
  · unfold Processed; decide
  · unfold loweredLevel; decide

/-- The last depth of the matrix. -/
theorem witness_RegistersReadState :
    (11 : Fin ND).val = 4 * (2 : Fin 3).val + (3 : Fin 4).val ∧
      (GReg.move, 65536) ∈ paramFields Params.reset := by decide

/-- The last frame of the release of program 2, where ENV_RELEASE is 3. -/
theorem witness_ReleaseEndDeactivatesVoice :
    Processed (withVoice enabled (tone ⟨.release, 955, 2, 32768⟩)) 0 ∧
      enabled.params.vthresh.toNat ≤ (loweredLevel (tone ⟨.release, 955, 2, 32768⟩)).toNat ∧
      enabled.params.envRelease.toNat ≤ (tone ⟨.release, 955, 2, 32768⟩).adsr.cnt.toNat + 1 ∧
      ∃ t, exec .tick (withVoice enabled (tone ⟨.release, 955, 2, 32768⟩)) = .next t := by
  refine ⟨?_, ?_, by decide, _, rfl⟩
  · unfold Processed; decide
  · unfold loweredLevel; decide

theorem witness_TickWithoutVoicesIsSilent :
    enabled.params.en = true ∧ ∀ v : Fin NV, (enabled.voices[v]).active = false := by decide

/-- Two states that share voice 0 and differ in voice 1. -/
theorem witness_VoicesDoNotInteract :
    sounding.params = { sounding with voices := sounding.voices.set 1 (tone ⟨.attack, 0, 0, 0⟩) }.params ∧
      sounding.lfoPhase = { sounding with voices := sounding.voices.set 1 (tone ⟨.attack, 0, 0, 0⟩) }.lfoPhase ∧
      sounding.voices[(0 : Fin NV)] =
        { sounding with voices := sounding.voices.set 1 (tone ⟨.attack, 0, 0, 0⟩) }.voices[(0 : Fin NV)] ∧
      (∃ t, exec .tick sounding = .next t) ∧
      ∃ t, exec .tick { sounding with voices := sounding.voices.set 1 (tone ⟨.attack, 0, 0, 0⟩) } = .next t :=
  ⟨rfl, rfl, rfl, ⟨_, rfl⟩, ⟨_, rfl⟩⟩

theorem witness_SineRomIsRoundedSine : 0 < 2048 ∧ 2047 < 2048 := by decide

/-- Phases and amplitudes that agree below PCAP = 1 and differ at partial 1. -/
theorem witness_OscSumIsBoundedCappedSum :
    ∀ p : Fin NP, p.val < (1#7).toNat →
      (Voice.reset 0).phase[p] = ((Voice.reset 0).phase.set 1 5)[p] ∧
        (Voice.reset 0).pamp[p] = ((Voice.reset 0).pamp.set 1 32768)[p] := by decide

theorem witness_CubicIsMonotoneClip :
    (-8388608 : Int) ≤ 8388608 ∧ |(8388607 : Int)| < 2 ^ 23 ∧ (2 : Int) ^ 23 ≤ 8388608 ∧
      (-8388608 : Int) ≤ -2 ^ 23 := by decide

theorem witness_TanhInterpolatesOddMonotone :
    (0 : Int) ≤ 0 ∧ (33554431 : Int) < 2 ^ 25 ∧ (2 : Int) ^ 25 ≤ 33554432 ∧ (33554431 : Int) ≤ 33554432 := by decide

theorem witness_ShapeInterpolatesMonotonically : (0 : Nat) < 65536 ∧ 65534 ≤ 65535 ∧ 65535 < 65536 := by decide

/-- Upwards and downwards, at the first and last frame of a stage. -/
theorem witness_InterpMovesTowardsTarget :
    (1 ≤ 1 ∧ 1 < 4 ∧ 1 ≤ 3 ∧ 3 < 4) ∧ (0 : Int) ≤ 81920 ∧ (32768 : Int) < 81920 := by decide

/-- Each timed stage at the last CNT that goes on and the first that ends it, and the times of a trigger. -/
theorem witness_EnvelopeFollowsItsStages :
    (∀ st ∈ [Stage.idle, .delay, .attack, .decay, .sustain, .release], (⟨st, 0, 0, 0⟩ : Adsr).stage = st) ∧
      ((2#24).toNat + 1 < enabled.params.envAttack.toNat ∧ enabled.params.envAttack.toNat ≤ (3#24).toNat + 1) ∧
      ((2#24).toNat + 1 < enabled.params.envDecay.toNat ∧ enabled.params.envDecay.toNat ≤ (3#24).toNat + 1) ∧
      ((1#24).toNat + 1 < enabled.params.envRelease.toNat ∧ enabled.params.envRelease.toNat ≤ (2#24).toNat + 1) ∧
      ((0#24).toNat + 1 < (2#24).toNat ∧ (2#24).toNat ≤ (1#24).toNat + 1 ∧
        enabled.params.envDelay.toNat ≤ (0#24).toNat + 1) ∧
      1 ≤ enabled.params.envAttack.toNat ∧ 1 ≤ enabled.params.envDecay.toNat := by decide

theorem witness_EnvelopeShape :
    1 ≤ enabled.params.envAttack.toNat ∧ 1 ≤ enabled.params.envDecay.toNat ∧ 1 ≤ enabled.params.envRelease.toNat ∧
      65536 ≤ enabled.params.envOvershoot.toNat ∧ enabled.params.envOvershoot.toNat ≤ 81920 ∧
      enabled.params.envSustain.toNat < 65536 := by decide

/-- An exact output, and one that saturates each way, of a section with unit coefficient. -/
theorem witness_BiquadKeepsResidue :
    (-2 ^ 31 ≤ (2 ^ 28 * 5 + 7 : Int) / 2 ^ 28 ∧ (2 ^ 28 * 5 + 7 : Int) / 2 ^ 28 < 2 ^ 31 ∧
        biquadAcc ⟨2 ^ 28, 0, 0⟩ 5 ⟨0, 0, 0, 0, 7⟩ = 2 ^ 28 * 5 + 7) ∧
      2 ^ 31 ≤ biquadAcc ⟨2 ^ 28, 0, 0⟩ (2 ^ 31 - 1) ⟨1, 0, 0, 0, 0⟩ / 2 ^ 28 ∧
      biquadAcc ⟨2 ^ 28, 0, 0⟩ (-2 ^ 31) ⟨0, -1, 0, 0, 0⟩ / 2 ^ 28 < -2 ^ 31 := by decide

theorem witness_VcaGainFollowsControl :
    min (max (((0#17).toNat : Int) + -5) 0) 81920 = 0 ∧
      min (max (((32768#17).toNat : Int) + 32768) 0) 81920 = 65536 := by decide

theorem witness_VcaMixesPunchPath :
    Params.reset.punchMix = 0 ∧ (-2 ^ 31 : Int) ≤ -2 ^ 31 ∧ (2 ^ 31 - 1 : Int) < 2 ^ 31 := by decide

theorem witness_WhiteGeneratorSteps : xorshift 1 = xorshift 1 ∧ (1 : Word) ≠ 0 := by decide

theorem witness_NoiseFiltersAreExact :
    NoiseColor.white = .white ∧ NoiseColor.mauve = .mauve ∧ NoiseColor.pink = .pink := by decide

theorem witness_LfoDrivesBoundedModulation : ({ Params.reset with move := 0 } : Params).move = 0 := rfl

end Sys2Proof.Tests
end

section
/-! SUPPORT. The arithmetic shift over the reals, which operations leave the stream and the two observed sequences
alone, the two equations of a step, and the obligations O6, O7, O8 and O60. -/

namespace Sys2Proof.Machine

open Sys2Proof.Config

theorem asr_eq_floor (x : Int) (k : Nat) : asr x k = ⌊(x : ℝ) / 2 ^ k⌋ := by
  have hp : (0 : ℝ) < 2 ^ k := by positivity
  obtain ⟨hlo, hhi⟩ := asr_bounds x k
  symm
  rw [Int.floor_eq_iff, le_div_iff₀' hp, div_lt_iff₀' hp]
  exact ⟨by exact_mod_cast hlo, by exact_mod_cast hhi⟩

/-- What an operation shares with the two agents: the operations to come and the two observed sequences (R17,
R18). -/
def State.traffic (s : State) : List How × List Word × List (OutSample × OutSample) := (s.stream, s.reads, s.frames)

@[simp] theorem State.flagBusErr_traffic (s : State) : s.flagBusErr.traffic = s.traffic := rfl
@[simp] theorem State.flagCmdErr_traffic (s : State) : s.flagCmdErr.traffic = s.traffic := rfl
@[simp] theorem State.clearStatus_traffic (s : State) (d : Word) : (s.clearStatus d).traffic = s.traffic := rfl
@[simp] theorem State.setLfoPhase_traffic (s : State) (d : Word) : (s.setLfoPhase d).traffic = s.traffic := rfl
@[simp] theorem State.setParams_traffic (s : State) (p : Params) : (s.setParams p).traffic = s.traffic := rfl
@[simp] theorem State.latchL_traffic (s : State) : s.latchL.traffic = s.traffic := rfl
@[simp] theorem State.latchR_traffic (s : State) : s.latchR.traffic = s.traffic := rfl
@[simp] theorem State.prepare_traffic (s : State) : s.prepare.traffic = s.traffic := rfl
@[simp] theorem State.telemClear_traffic (s : State) : s.telemClear.traffic = s.traffic := rfl
@[simp] theorem State.updVoice_traffic (s : State) (v : Fin NV) (f : Voice → Voice) :
    (s.updVoice v f).traffic = s.traffic := rfl

@[simp] theorem State.voiceCommand_traffic (s : State) (v : BitVec 8) (f : Voice → Voice) :
    (s.voiceCommand v f).traffic = s.traffic := by
  obtain ⟨_, h⟩ | ⟨_, h⟩ := voiceCommand_cases s v f <;> simp [h]

@[simp] theorem State.command_traffic (s : State) (w : Word) : (s.command w).traffic = s.traffic := by
  obtain h | h | h | h | ⟨f, _, h⟩ := command_cases s w <;> simp [h]

@[simp] theorem readEffect_traffic (s : State) (r : Reg) : (readEffect s r).traffic = s.traffic := by
  obtain h | h | h := readEffect_cases s r <;> simp [h]

@[simp] theorem readState_traffic (a : Addr) (s : State) : (readState a s).traffic = s.traffic := by
  obtain ⟨_, h⟩ | ⟨_, _, h⟩ := readState_cases a s <;> simp [h]

@[simp] theorem writeReg_traffic (s : State) (r : Reg) (d : Word) : (writeReg s r d).traffic = s.traffic := by
  obtain ⟨_, h⟩ | ⟨_, h⟩ | ⟨_, h⟩ | ⟨_, _, h⟩ | ⟨_, _, _, h⟩ | ⟨_, _, _, h⟩ := writeReg_cases s r d <;> simp [h]

@[simp] theorem writeState_traffic (a : Addr) (d : Word) (s : State) : (writeState a d s).traffic = s.traffic := by
  obtain h | ⟨_, _, _, h⟩ := writeState_cases a d s <;> simp [h]

/-- `t` is reached from `s` by an operation: the operations to come are the same, and the observed sequences of
R18 are those of `s` or longer. -/
def State.ExtendedBy (s t : State) : Prop := t.stream = s.stream ∧ s.reads <+: t.reads ∧ s.frames <+: t.frames

theorem State.extendedBy_of_traffic_eq {s t : State} (h : t.traffic = s.traffic) : s.ExtendedBy t := by
  obtain ⟨hstream, hreads, hframes⟩ : t.stream = s.stream ∧ t.reads = s.reads ∧ t.frames = s.frames := by
    simpa [State.traffic] using h
  exact ⟨hstream, hreads ▸ List.prefix_rfl, hframes ▸ List.prefix_rfl⟩

theorem State.extendedBy_returnWord {s t : State} (w : Word) (h : s.ExtendedBy t) : s.ExtendedBy (t.returnWord w) := by
  obtain ⟨hstream, hreads, hframes⟩ := h
  exact ⟨hstream, hreads.trans (List.prefix_append _ _), hframes⟩

theorem State.extendedBy_frame (s : State) : s.ExtendedBy s.frame := by
  obtain ⟨_, h⟩ | ⟨_, h⟩ := frame_cases s <;> simp [h, State.ExtendedBy]

theorem step_of_stream_nil {s : State} (h : s.stream = []) : step s = .next s := by
  simp [step, State.nextWord, h]

theorem step_of_stream_cons {s : State} {w : How} {rest : List How} {i : Instr} (h : s.stream = w :: rest)
    (hw : decode w = .ok i) : step s = exec i { s with stream := rest } := by
  simp [step, State.nextWord, State.consume, h, hw]

/-- A decodable table number decodes as the operation word that `withFetchWord` puts in front of the stream. -/
theorem decode_of_decodeTableWord {nbits w : Nat} {i : Instr} (h : decodeTableWord nbits w = some i) :
    decode (BitVec.ofNat 50 (w % 2 ^ nbits)) = .ok i := by
  unfold decodeTableWord howOfTableWord at h
  by_cases hfit : w % 2 ^ nbits < 2 ^ 50
  · rw [if_pos hfit] at h
    cases hd : decode (BitVec.ofNat 50 (w % 2 ^ nbits)) <;> simp_all
  · rw [if_neg hfit] at h
    contradiction

end Sys2Proof.Machine

namespace Sys2Proof.Proofs

open Sys2Proof.Config Sys2Proof.Machine

/-- Settles O60: every operator is the floor shift `asr_eq_floor`, a clamp, or the one inside the other. -/
theorem operatorsFollowTheirFormulas : Obligations.OperatorsFollowTheirFormulas := by
  have hq16 : ∀ x g : Int, q16 x g = ⌊((x * g : Int) : ℝ) / 65536⌋ := fun x g => by
    rw [q16, asr_eq_floor]; norm_num
  refine ⟨asr_eq_floor, fun _ _ _ => rfl, fun _ => rfl, hq16, fun x g => ?_⟩
  rw [← hq16]
  rfl

/-- Settles O6, by the equation of a step on a nonempty stream. -/
theorem stepRunsDecodedInstruction : Obligations.StepRunsDecodedInstruction :=
  fun _ _ _ _ hstream hdecode => step_of_stream_cons hstream hdecode

/-- Settles O7: `withFetchWord` is a stream whose first word is the table word and whose rest is the old stream. -/
theorem streamDrivesSteps : Obligations.StreamDrivesSteps :=
  ⟨fun _ => step_of_stream_nil, fun s nbits w _ h =>
    step_of_stream_cons (s := s.withFetchWord nbits w) rfl (decode_of_decodeTableWord h)⟩

/-- Settles O8, by cases over the instructions: only RD and TICK change the traffic, each by appending to one of
the observed sequences. -/
theorem everyOperationCompletes : Obligations.EveryOperationCompletes := by
  intro i s
  cases i with
  | rd a =>
    exact ⟨_, exec_rd a s, State.extendedBy_returnWord _ (State.extendedBy_of_traffic_eq (readState_traffic a s))⟩
  | wr a d => exact ⟨_, exec_wr a d s, State.extendedBy_of_traffic_eq (writeState_traffic a d s)⟩
  | tick => exact ⟨_, exec_tick s, State.extendedBy_frame s⟩
  | nop => exact ⟨_, exec_nop s, State.extendedBy_of_traffic_eq rfl⟩
  | prepare => exact ⟨_, exec_prepare s, State.extendedBy_of_traffic_eq s.prepare_traffic⟩
  | telemClear => exact ⟨_, exec_telemClear s, State.extendedBy_of_traffic_eq s.telemClear_traffic⟩
  | voiceStart v => exact ⟨_, exec_voiceStart v s, State.extendedBy_of_traffic_eq (s.voiceCommand_traffic v _)⟩
  | voiceRelease v => exact ⟨_, exec_voiceRelease v s, State.extendedBy_of_traffic_eq (s.voiceCommand_traffic v _)⟩
  | voiceRetrigger v => exact ⟨_, exec_voiceRetrigger v s, State.extendedBy_of_traffic_eq (s.voiceCommand_traffic v _)⟩
  | voiceStop v => exact ⟨_, exec_voiceStop v s, State.extendedBy_of_traffic_eq (s.voiceCommand_traffic v _)⟩

end Sys2Proof.Proofs
end

section
/-! SUPPORT. SINE_ROM against the real sine (R211). The fixed-point sine of the model is followed through its three
errors, the truncation of each step, the cut Taylor series and the 96-bit value of π, and no entry lies near enough
to a rounding tie for their sum to matter. Settles O41. -/

namespace Sys2Proof.Machine

open Sys2Proof.Claims

/-! The real alternating series, and the fixed-point one beside it -/

/-- The series of `fxAlternating` over the reals, with no truncation. -/
noncomputable def realAlternating (z : ℝ) (divisors : List ℕ) : ℝ :=
  divisors.foldl (fun acc (d : ℕ) => 1 - z ^ 2 / d * acc) 1

/-- The divisors of the fixed-point sine, innermost first. -/
def sineDivisors : List ℕ :=
  [22 * 23, 20 * 21, 18 * 19, 16 * 17, 14 * 15, 12 * 13, 10 * 11, 8 * 9, 6 * 7, 4 * 5, 2 * 3]

theorem fxSin_eq (x : ℕ) : fxSin x = x * fxAlternating x sineDivisors / fxOne := rfl

theorem fxOne_pos : 0 < fxOne := by decide

/-- A floor division over the reals: the quotient is at most one below the exact value. -/
theorem natDiv_real_bounds (n : ℕ) {d : ℕ} (hd : 0 < d) :
    ((n / d : ℕ) : ℝ) * d ≤ n ∧ (n : ℝ) < ((n / d : ℕ) : ℝ) * d + d :=
  ⟨by exact_mod_cast Nat.div_mul_le_self n d, by exact_mod_cast Nat.lt_div_mul_add hd⟩

/-- The error of a step over the reals: `s` is the rounded square of `x`, `q` the rounded product of a step. -/
theorem alternatingStep_error {F x s acc d q a : ℝ} (hF : 0 < F) (hx0 : 0 ≤ x) (hx : x ≤ 2 * F) (hd : 6 ≤ d)
    (hacc0 : 0 ≤ acc) (hacc : acc ≤ F) (hs : s * F ≤ x * x) (hs' : x * x < s * F + F)
    (hq : q * (d * F) ≤ s * acc) (hq' : s * acc < q * (d * F) + d * F) (ha : |acc - F * a| ≤ 4) :
    |F - q - F * (1 - (x / F) ^ 2 / d * a)| ≤ 4 := by
  obtain ⟨halo, hahi⟩ := abs_le.mp ha
  have hd0 : 0 < d := by linarith
  have hscaled : d * F ^ 2 * (F - q - F * (1 - (x / F) ^ 2 / d * a)) =
      (x * x - s * F) * acc - x * x * (acc - F * a) + F * (s * acc - q * (d * F)) := by
    field_simp
    ring
  have hsquare : x * x ≤ 4 * F ^ 2 := by nlinarith
  have hsTrunc0 : 0 ≤ (x * x - s * F) * acc := mul_nonneg (by linarith) hacc0
  have hsTrunc : (x * x - s * F) * acc ≤ F * F := mul_le_mul (by linarith) hacc hacc0 hF.le
  have hqTrunc0 : 0 ≤ F * (s * acc - q * (d * F)) := mul_nonneg hF.le (by linarith)
  have hqTrunc : F * (s * acc - q * (d * F)) ≤ F * (d * F) := mul_le_mul_of_nonneg_left (by linarith) hF.le
  have hcarried : |x * x * (acc - F * a)| ≤ 4 * F ^ 2 * 4 := by
    rw [abs_mul, abs_of_nonneg (mul_self_nonneg x)]
    exact mul_le_mul hsquare ha (abs_nonneg _) (by positivity)
  obtain ⟨hclo, hchi⟩ := abs_le.mp hcarried
  have hdF : 6 * F ^ 2 ≤ d * F ^ 2 := mul_le_mul_of_nonneg_right hd (by positivity)
  have hpos : 0 < d * F ^ 2 := by positivity
  rw [abs_le]
  constructor <;> refine le_of_mul_le_mul_left ?_ hpos <;> rw [hscaled] <;> linarith [sq_nonneg F]

/-- One step of the series: an error of four units stays one of at most four units. -/
theorem fxAlternating_step {x acc d : ℕ} {a : ℝ} (hx : x ≤ 2 * fxOne) (hd : 6 ≤ d) (hacc : acc ≤ fxOne)
    (ha : |(acc : ℝ) - fxOne * a| ≤ 4) :
    |((fxOne - x * x / fxOne * acc / (d * fxOne) : ℕ) : ℝ) - fxOne * (1 - (x / fxOne : ℝ) ^ 2 / d * a)| ≤ 4 := by
  have hdF : 0 < d * fxOne := Nat.mul_pos (by omega) fxOne_pos
  obtain ⟨hs, hs'⟩ := natDiv_real_bounds (x * x) fxOne_pos
  obtain ⟨hq, hq'⟩ := natDiv_real_bounds (x * x / fxOne * acc) hdF
  have hsquare : x * x / fxOne ≤ d * fxOne := by
    refine Nat.div_le_of_le_mul ?_
    calc x * x ≤ 2 * fxOne * (2 * fxOne) := Nat.mul_le_mul hx hx
      _ = fxOne * (4 * fxOne) := by ring
      _ ≤ fxOne * (d * fxOne) := by gcongr; omega
  have hle : x * x / fxOne * acc / (d * fxOne) ≤ fxOne :=
    Nat.div_le_of_le_mul (Nat.mul_le_mul hsquare hacc)
  rw [Nat.cast_sub hle]
  push_cast at hs hs' hq hq'
  exact alternatingStep_error (by exact_mod_cast fxOne_pos) (Nat.cast_nonneg x) (by exact_mod_cast hx) (by exact_mod_cast hd)
    (Nat.cast_nonneg acc) (by exact_mod_cast hacc) hs hs' hq hq' ha

theorem fxAlternating_close {x : ℕ} (hx : x ≤ 2 * fxOne) {divisors : List ℕ} (hd : ∀ d ∈ divisors, 6 ≤ d) :
    |(fxAlternating x divisors : ℝ) - fxOne * realAlternating (x / fxOne) divisors| ≤ 4 := by
  suffices h : ∀ (acc : ℕ) (a : ℝ), acc ≤ fxOne → |(acc : ℝ) - fxOne * a| ≤ 4 →
      |((divisors.foldl (fun acc d => fxOne - x * x / fxOne * acc / (d * fxOne)) acc : ℕ) : ℝ) -
        fxOne * divisors.foldl (fun a (d : ℕ) => 1 - (x / fxOne : ℝ) ^ 2 / d * a) a| ≤ 4 from
    h fxOne 1 le_rfl (by norm_num)
  induction divisors with
  | nil => exact fun acc a _ ha => ha
  | cons d ds ih =>
    intro acc a hacc ha
    rw [List.forall_mem_cons] at hd
    exact ih hd.2 _ _ (Nat.sub_le _ _) (fxAlternating_step hx hd.1 hacc ha)

/-! The cut Taylor series -/

theorem sin_terms_antitone {z : ℝ} (h0 : 0 ≤ z) (h2 : z ≤ 2) :
    Antitone fun n : ℕ => z ^ (2 * n + 1) / ((2 * n + 1).factorial : ℝ) := by
  refine antitone_nat_of_succ_le fun n => ?_
  rw [div_le_div_iff₀ (by positivity) (by positivity)]
  have hfac : ((2 * (n + 1) + 1).factorial : ℝ) = (2 * n + 3) * (2 * n + 2) * (2 * n + 1).factorial := by
    rw [show 2 * (n + 1) + 1 = 2 * n + 1 + 1 + 1 by ring, Nat.factorial_succ, Nat.factorial_succ]
    push_cast; ring
  have hz : z ^ 2 ≤ (2 * n + 3) * (2 * n + 2) := by nlinarith [(Nat.cast_nonneg n : (0 : ℝ) ≤ n)]
  calc z ^ (2 * (n + 1) + 1) * (2 * n + 1).factorial
      = z ^ (2 * n + 1) * (2 * n + 1).factorial * z ^ 2 := by ring
    _ ≤ z ^ (2 * n + 1) * (2 * n + 1).factorial * ((2 * n + 3) * (2 * n + 2)) := by gcongr
    _ = z ^ (2 * n + 1) * (2 * (n + 1) + 1).factorial := by rw [hfac]; ring

/-- The alternating series error bound for the sine, in the form of the model's series. -/
theorem sin_close_realAlternating {z : ℝ} (h0 : 0 ≤ z) (h2 : z ≤ 2) :
    |Real.sin z - z * realAlternating z sineDivisors| ≤ 2 ^ 25 / (Nat.factorial 25 : ℝ) := by
  have hpoly : z * realAlternating z sineDivisors =
      ∑ i ∈ Finset.range 12, (-1) ^ i * (z ^ (2 * i + 1) / ((2 * i + 1).factorial : ℝ)) := by
    simp only [Finset.sum_range_succ, Finset.sum_range_zero, realAlternating, sineDivisors, List.foldl_cons,
      List.foldl_nil, Nat.factorial]
    push_cast
    ring
  have herr := alternating_series_error_bound _ (sin_terms_antitone h0 h2)
    (Real.hasSum_sinh z).summable 12
  rw [hpoly, Real.sin_eq_tsum]
  simp only [mul_div_assoc] at herr ⊢
  refine herr.trans ?_
  gcongr

/-! The model's sine -/

/-- The fixed-point sine against the sine of its own argument, in units of 2^-96. -/
theorem fxSin_close {x : ℕ} (hx : x ≤ 2 * fxOne) :
    |(fxSin x : ℝ) - fxOne * Real.sin (x / fxOne)| ≤ 2 ^ 39 := by
  have hF : (0 : ℝ) < fxOne := by exact_mod_cast fxOne_pos
  set z : ℝ := x / fxOne with hz
  have hxz : (x : ℝ) = fxOne * z := by rw [hz]; field_simp
  have hz0 : 0 ≤ z := by positivity
  have hz2 : z ≤ 2 := by rw [hz, div_le_iff₀ hF]; exact_mod_cast hx
  set acc := fxAlternating x sineDivisors with hacc
  set a := realAlternating z sineDivisors
  obtain ⟨htrunc, htrunc'⟩ := natDiv_real_bounds (x * acc) fxOne_pos
  rw [hacc, ← fxSin_eq, ← hacc, Nat.cast_mul, hxz] at htrunc htrunc'
  have hfloor : |(fxSin x : ℝ) - z * acc| ≤ 1 := by
    rw [abs_le]
    constructor <;> nlinarith
  have hseries : |z * acc - fxOne * (z * a)| ≤ 2 * 4 := by
    rw [show z * acc - fxOne * (z * a) = z * (acc - fxOne * a) by ring, abs_mul, abs_of_nonneg hz0]
    exact mul_le_mul hz2 (fxAlternating_close hx (by decide)) (abs_nonneg _) (by norm_num)
  have htaylor : |fxOne * (z * a) - fxOne * Real.sin z| ≤ 2 ^ 38 := by
    rw [← mul_sub, abs_mul, abs_of_pos hF, abs_sub_comm]
    calc (fxOne : ℝ) * |Real.sin z - z * a|
        ≤ fxOne * (2 ^ 25 / (Nat.factorial 25 : ℝ)) := by gcongr; exact sin_close_realAlternating hz0 hz2
      _ ≤ 2 ^ 38 := by norm_num [fxOne, Nat.factorial]
  calc |(fxSin x : ℝ) - fxOne * Real.sin z|
      ≤ |(fxSin x : ℝ) - z * acc| + |z * acc - fxOne * (z * a)| + |fxOne * (z * a) - fxOne * Real.sin z| := by
        refine (abs_sub_le _ (fxOne * (z * a)) _).trans ?_
        gcongr
        exact abs_sub_le _ _ _
    _ ≤ 1 + 2 * 4 + 2 ^ 38 := by gcongr
    _ ≤ 2 ^ 39 := by norm_num

/-- The model's π, by the twenty decimals of Mathlib's bounds. -/
theorem fxPi_close : |(fxPi : ℝ) - fxOne * Real.pi| ≤ 2 ^ 30 := by
  have hlo := Real.pi_gt_d20
  have hhi := Real.pi_lt_d20
  rw [abs_le]
  norm_num [fxPi, fxOne] at *
  constructor <;> linarith

/-- The fixed-point sine of a table angle against the sine of the exact angle. -/
theorem fxSin_angle_close {k : ℕ} (hk : k ≤ 512) :
    |(fxSin (fxPi * k / 1024) : ℝ) - fxOne * Real.sin (Real.pi * k / 1024)| ≤ 2 ^ 40 := by
  have hF : (0 : ℝ) < fxOne := by exact_mod_cast fxOne_pos
  have hx : fxPi * k / 1024 ≤ 2 * fxOne := by unfold fxPi fxOne; omega
  have hk' : (k : ℝ) ≤ 512 := by exact_mod_cast hk
  obtain ⟨htrunc, htrunc'⟩ := natDiv_real_bounds (fxPi * k) (show 0 < 1024 by norm_num)
  obtain ⟨hpilo, hpihi⟩ := abs_le.mp fxPi_close
  push_cast at htrunc htrunc'
  set x := fxPi * k / 1024
  have hangle : |(x : ℝ) - fxOne * (Real.pi * k / 1024)| ≤ 2 ^ 30 := by
    rw [abs_le]
    constructor <;> nlinarith [(Nat.cast_nonneg k : (0 : ℝ) ≤ k)]
  have hlip : |fxOne * Real.sin (x / fxOne) - fxOne * Real.sin (Real.pi * k / 1024)| ≤ 2 ^ 30 := by
    rw [← mul_sub, abs_mul, abs_of_pos hF]
    calc (fxOne : ℝ) * |Real.sin (x / fxOne) - Real.sin (Real.pi * k / 1024)|
        ≤ fxOne * |(x : ℝ) / fxOne - Real.pi * k / 1024| :=
        mul_le_mul_of_nonneg_left (Real.abs_sin_sub_sin_le _ _) hF.le
      _ = |(x : ℝ) - fxOne * (Real.pi * k / 1024)| := by
        rw [← abs_of_pos hF, ← abs_mul, abs_of_pos hF, mul_sub, mul_div_cancel₀ _ hF.ne']
      _ ≤ 2 ^ 30 := hangle
  calc |(fxSin x : ℝ) - fxOne * Real.sin (Real.pi * k / 1024)|
      ≤ |(fxSin x : ℝ) - fxOne * Real.sin (x / fxOne)| +
          |fxOne * Real.sin (x / fxOne) - fxOne * Real.sin (Real.pi * k / 1024)| := abs_sub_le _ _ _
    _ ≤ 2 ^ 39 + 2 ^ 30 := add_le_add (fxSin_close hx) hlip
    _ ≤ 2 ^ 40 := by norm_num

/-! Rounding -/

/-- An integer rounding agrees with the rounding of a real that lies nearer to its operand than the operand lies to
a tie. -/
theorem rndNat_eq_floor {n d t : ℕ} {y : ℝ} (hd : 0 < d) (hy : |(n : ℝ) - d * y| ≤ t)
    (hlo : 2 * t ≤ (2 * n + d) % (2 * d)) (hhi : (2 * n + d) % (2 * d) + 2 * t < 2 * d) :
    (rndNat n d : ℤ) = ⌊y + 1 / 2⌋ := by
  have hd' : (0 : ℝ) < d := by exact_mod_cast hd
  obtain ⟨hylo, hyhi⟩ := abs_le.mp hy
  have hdiv := Nat.div_add_mod (2 * n + d) (2 * d)
  unfold rndNat
  generalize (2 * n + d) / (2 * d) = q at *
  generalize (2 * n + d) % (2 * d) = m at *
  have hdiv' : (2 * d * q + m : ℝ) = 2 * n + d := by exact_mod_cast hdiv
  have hlo' : (2 * t : ℝ) ≤ m := by exact_mod_cast hlo
  have hhi' : (m + 2 * t : ℝ) < 2 * d := by exact_mod_cast hhi
  symm
  rw [Int.floor_eq_iff, Int.cast_natCast]
  constructor
  · refine le_of_mul_le_mul_left ?_ hd'
    linarith
  · refine lt_of_mul_lt_mul_left ?_ hd'.le
    linarith

/-- How far the scaled fixed-point sine of a table entry can be from its exact value. -/
def sineTolerance : ℕ := 8388607 * 2 ^ 40

/-- The remainder of the division that rounds entry `k`; 0 and the divisor are the ties. -/
def sineRemainder (k : ℕ) : ℕ := (2 * (8388607 * fxSin (fxPi * k / 1024)) + fxOne) % (2 * fxOne)

/-- No entry of the first quarter is near a tie. How far a table stays from its ties is a fact of its numbers alone,
so the entries are evaluated. -/
theorem sineRemainder_clear_of_ties :
    ∀ k < 513, 2 * sineTolerance ≤ sineRemainder k ∧ sineRemainder k + 2 * sineTolerance < 2 * fxOne := by
  decide +kernel

theorem sineQuarter_eq_floor {k : ℕ} (hk : k ≤ 512) :
    (sineQuarter k : ℤ) = ⌊8388607 * Real.sin (Real.pi * k / 1024) + 1 / 2⌋ := by
  obtain ⟨hlo, hhi⟩ := sineRemainder_clear_of_ties k (by omega)
  refine rndNat_eq_floor fxOne_pos ?_ hlo hhi
  obtain ⟨hslo, hshi⟩ := abs_le.mp (fxSin_angle_close hk)
  rw [abs_le, sineTolerance]
  push_cast
  constructor <;> linarith

theorem roundAway_of_nonneg {x : ℝ} (h : 0 ≤ x) : roundAway x = ⌊x + 1 / 2⌋ := if_neg h.not_gt

theorem roundAway_neg (x : ℝ) : roundAway (-x) = -roundAway x := by
  unfold roundAway
  obtain h | rfl | h := lt_trichotomy x 0
  · simp [h, h.le.not_gt]
  · norm_num
  · simp [h, h.le.not_gt]

/-- The first quarter of the table (R211). -/
theorem sineQuarter_eq_roundAway {k : ℕ} (hk : k ≤ 512) :
    (sineQuarter k : ℤ) = roundAway (8388607 * Real.sin (Real.pi * k / 1024)) := by
  have hk' : (k : ℝ) ≤ 512 := by exact_mod_cast hk
  have hsin : 0 ≤ Real.sin (Real.pi * k / 1024) := by
    refine Real.sin_nonneg_of_nonneg_of_le_pi (by positivity) ?_
    rw [div_le_iff₀ (by norm_num)]
    gcongr
    linarith
  rw [sineQuarter_eq_floor hk, roundAway_of_nonneg (by positivity)]

end Sys2Proof.Machine

namespace Sys2Proof.Proofs

open Sys2Proof.Machine Sys2Proof.Claims

/-- Settles O41: the first quarter is rounded correctly, and the other three follow by the symmetries of the sine
and of the rounding. -/
theorem sineRomIsRoundedSine : Obligations.SineRomIsRoundedSine := by
  intro i hi
  rw [show 2 * Real.pi * (i : ℝ) / 2048 = Real.pi * i / 1024 by ring]
  unfold sineRom
  split
  · next h => exact sineQuarter_eq_roundAway h
  split
  · next h =>
    rw [sineQuarter_eq_roundAway (by omega), Nat.cast_sub h, ← Real.sin_pi_sub]
    congr 3
    push_cast
    ring
  split
  · next h h' =>
    rw [sineQuarter_eq_roundAway (by omega), Nat.cast_sub (by omega), ← roundAway_neg, ← mul_neg, ← Real.sin_add_pi]
    congr 3
    push_cast
    ring
  · next h =>
    rw [sineQuarter_eq_roundAway (by omega), Nat.cast_sub (by omega), ← roundAway_neg, ← mul_neg, ← Real.sin_neg,
      ← Real.sin_add_two_pi]
    congr 3
    push_cast
    ring

end Sys2Proof.Proofs
end

section
/-! SUPPORT. Invariants of the block. A property of the parameters, of each voice and of the telemetry that every
operation keeps is kept by every step: the walk over the operations is made once, here. -/

namespace Sys2Proof.Machine

open Sys2Proof.Config

/-- `P` holds of the parameters, `V` of every voice and `T` of the telemetry. -/
structure State.Meets (P : Params → Prop) (V : Voice → Prop) (T : Telem → Prop) (s : State) : Prop where
  params : P s.params
  voices : ∀ v : Fin NV, V s.voices[v]
  telem : T s.telem

/-- Everything an operation does to the parameters, to a voice or to the telemetry keeps `P`, `V` or `T`. -/
structure KeptByOperations (P : Params → Prop) (V : Voice → Prop) (T : Telem → Prop) : Prop where
  writeParam : ∀ p g d, P p → P (writeParam p g d)
  writeDepth : ∀ p dst src d, P p → P (writeDepth p dst src d)
  writeVoice : ∀ x r d, V x → V (writeVoice x r d)
  prepare : ∀ (v : Fin NV) x, V x → V (Voice.prepare v.val x)
  start : ∀ p x, V x → V (Voice.start p x)
  release : ∀ x, V x → V x.release
  retrigger : ∀ p x, V x → V (Voice.retrigger p x)
  stop : ∀ x, V x → V x.stop
  turn : ∀ p lfo v x, P p → V x → V (voiceTurn p lfo v x).voice
  latchL : ∀ t w, T t → T { t with eshadowL := w }
  latchR : ∀ t w, T t → T { t with eshadowR := w }
  clearTelem : T Telem.reset
  accumulate : ∀ t l r, T t → T (t.accumulate l r)

namespace KeptByOperations

variable {P : Params → Prop} {V : Voice → Prop} {T : Telem → Prop} {s : State}

theorem updVoice (h : s.Meets P V T) (v : Fin NV) {f : Voice → Voice} (hf : V s.voices[v] → V (f s.voices[v])) :
    (s.updVoice v f).Meets P V T where
  params := h.params
  telem := h.telem
  voices w := by
    by_cases hvw : v = w
    · subst hvw
      rw [State.updVoice_get_same]
      exact hf (h.voices v)
    · rw [State.updVoice_get_other s v w f hvw]
      exact h.voices w

theorem voiceCommand (h : s.Meets P V T) (v : BitVec 8) {f : Voice → Voice} (hf : ∀ x, V x → V (f x)) :
    (s.voiceCommand v f).Meets P V T := by
  obtain ⟨_, hs⟩ | ⟨_, hs⟩ := voiceCommand_cases s v f <;> rw [hs]
  · exact updVoice h _ (hf _)
  · exact ⟨h.params, h.voices, h.telem⟩

variable (K : KeptByOperations P V T)
include K

theorem prepareAll (h : s.Meets P V T) : s.prepare.Meets P V T where
  params := h.params
  telem := K.clearTelem
  voices v := by
    rw [State.prepare_get]
    exact K.prepare v _ (h.voices v)

theorem clearTelemetry (h : s.Meets P V T) : s.telemClear.Meets P V T := ⟨h.params, h.voices, K.clearTelem⟩

theorem command (h : s.Meets P V T) (w : Word) : (s.command w).Meets P V T := by
  obtain hs | hs | hs | hs | ⟨f, hf, hs⟩ := command_cases s w <;> rw [hs]
  · exact ⟨h.params, h.voices, h.telem⟩
  · exact h
  · exact K.prepareAll h
  · exact K.clearTelemetry h
  · apply voiceCommand h
    obtain rfl | rfl | rfl | rfl := hf
    · exact K.start s.params
    · exact K.release
    · exact K.retrigger s.params
    · exact K.stop

theorem readState (h : s.Meets P V T) (a : Addr) : (readState a s).Meets P V T := by
  obtain ⟨_, hs⟩ | ⟨r, _, hs⟩ := readState_cases a s <;> rw [hs]
  · exact ⟨h.params, h.voices, h.telem⟩
  · obtain hr | hr | hr := readEffect_cases s r <;> rw [hr]
    · exact ⟨h.params, h.voices, K.latchL _ _ h.telem⟩
    · exact ⟨h.params, h.voices, K.latchR _ _ h.telem⟩
    · exact h

theorem writeReg (h : s.Meets P V T) (r : Reg) (d : Word) : (writeReg s r d).Meets P V T := by
  obtain ⟨_, hs⟩ | ⟨_, hs⟩ | ⟨_, hs⟩ | ⟨g, _, hs⟩ | ⟨dst, src, _, hs⟩ | ⟨v, q, _, hs⟩ := writeReg_cases s r d <;>
    rw [hs]
  · exact K.command h d
  · exact ⟨h.params, h.voices, h.telem⟩
  · exact ⟨h.params, h.voices, h.telem⟩
  · exact ⟨K.writeParam _ g d h.params, h.voices, h.telem⟩
  · exact ⟨K.writeDepth _ dst src d h.params, h.voices, h.telem⟩
  · exact updVoice h v (K.writeVoice _ q d)

theorem writeState (h : s.Meets P V T) (a : Addr) (d : Word) : (writeState a d s).Meets P V T := by
  obtain hs | ⟨r, _, _, hs⟩ := writeState_cases a d s <;> rw [hs]
  · exact ⟨h.params, h.voices, h.telem⟩
  · exact K.writeReg h r d

theorem frame (h : s.Meets P V T) : s.frame.Meets P V T := by
  obtain ⟨_, hs⟩ | ⟨_, hs⟩ := frame_cases s <;> rw [hs]
  · exact
      { params := by simpa using h.params
        telem := by simpa using K.accumulate _ _ _ h.telem
        voices := fun v => by
          rw [State.frameEnabled_get]
          exact K.turn _ _ _ _ h.params (h.voices v) }
  · exact ⟨h.params, h.voices, h.telem⟩

theorem exec {i : Instr} {t : State} (h : s.Meets P V T) (ht : exec i s = .next t) : t.Meets P V T := by
  cases i <;>
    simp only [exec_rd, exec_wr, exec_tick, exec_nop, exec_prepare, exec_telemClear, exec_voiceStart, exec_voiceRelease,
      exec_voiceRetrigger, exec_voiceStop, Host.Outcome.next.injEq] at ht <;>
    subst ht
  case rd a =>
    obtain ⟨hp, hv, ht⟩ := K.readState h a
    exact ⟨hp, hv, ht⟩
  case wr a d => exact K.writeState h a d
  case tick => exact K.frame h
  case nop => exact h
  case prepare => exact K.prepareAll h
  case telemClear => exact K.clearTelemetry h
  case voiceStart v => exact voiceCommand h v (K.start s.params)
  case voiceRelease v => exact voiceCommand h v K.release
  case voiceRetrigger v => exact voiceCommand h v (K.retrigger s.params)
  case voiceStop v => exact voiceCommand h v K.stop

theorem step {t : State} (h : s.Meets P V T) (ht : step s = .next t) : t.Meets P V T := by
  obtain ⟨_, rfl⟩ | ⟨_, rest, _, _, _, hexec⟩ := step_cases ht
  · exact h
  · exact K.exec (s := { s with stream := rest }) ⟨h.params, h.voices, h.telem⟩ hexec

end KeptByOperations

end Sys2Proof.Machine
end

section
/-! SUPPORT. The envelope generator keeps its levels in [0, 81920] (R255): SHAPE_ROM lies in [0, 65536], so a level on
the way between two levels is a weighted mean of them. -/

namespace Sys2Proof.Machine

/-! SHAPE_ROM -/

/-- The recursion of the exponential series. It is unfolded by `delta`: the generated equation has the kernel count up
to `fxOne`. -/
theorem fxExpFrom_succ (x n acc : ℕ) :
    fxExpFrom x (n + 1) acc = fxExpFrom x n (fxOne + x * acc / ((n + 1) * fxOne)) := by
  delta fxExpFrom
  rfl

theorem fxExpFrom_mono (n : ℕ) {x y a b : ℕ} (hxy : x ≤ y) (hab : a ≤ b) : fxExpFrom x n a ≤ fxExpFrom y n b := by
  induction n generalizing a b with
  | zero => exact hab
  | succ n ih =>
    rw [fxExpFrom_succ, fxExpFrom_succ]
    exact ih (Nat.add_le_add_left (Nat.div_le_div_right (Nat.mul_le_mul hxy hab)) fxOne)

theorem fxSquare_mono {x y : ℕ} (h : x ≤ y) : fxSquare x ≤ fxSquare y :=
  Nat.div_le_div_right (Nat.mul_le_mul h h)

theorem fxExp_mono {x y : ℕ} (h : x ≤ y) : fxExp x ≤ fxExp y := by
  have hseries : fxExpFrom (x / 16) 24 fxOne ≤ fxExpFrom (y / 16) 24 fxOne :=
    fxExpFrom_mono 24 (Nat.div_le_div_right h) (Nat.le_refl fxOne)
  unfold fxExp
  exact fxSquare_mono (fxSquare_mono (fxSquare_mono (fxSquare_mono hseries)))

theorem rndNat_le {n d m : ℕ} (h : n ≤ m * d) : rndNat n d ≤ m := by
  obtain rfl | hd := d.eq_zero_or_pos
  · simp [rndNat]
  · apply Nat.le_of_lt_succ
    rw [rndNat, Nat.div_lt_iff_lt_mul (by omega)]
    nlinarith

/-- The quotient of SHAPE_ROM is at most its scale `m`: `e * o ≤ o * f` once the products are written out. -/
theorem rndNat_shape_le {e f o m : ℕ} (h : e ≤ f) : rndNat (m * (e - o) * f) (e * (f - o)) ≤ m := by
  apply rndNat_le
  rw [mul_assoc, Nat.sub_mul, Nat.mul_sub e f o]
  have : e * o ≤ o * f := (Nat.mul_comm e o).trans_le (Nat.mul_le_mul_left o h)
  exact Nat.mul_le_mul_left m (by omega)

theorem shapeRom_mem {k : ℕ} (hk : k ≤ 1024) : 0 ≤ shapeRom k ∧ shapeRom k ≤ 65536 := by
  have hmono : fxExp (5 * k * fxOne / 1024) ≤ fxExp (5 * fxOne) :=
    fxExp_mono (Nat.div_le_of_le_mul (by nlinarith))
  unfold shapeRom
  exact ⟨Int.natCast_nonneg _, Int.ofNat_le.mpr (rndNat_shape_le hmono)⟩

/-! Levels on the way -/

theorem lerp_mem_of_mem {a b lo hi : ℤ} {f k : ℕ} (ha : lo ≤ a ∧ a ≤ hi) (hb : lo ≤ b ∧ b ≤ hi) (hf : f < 2 ^ k) :
    lo ≤ lerp a b f k ∧ lerp a b f k ≤ hi := by
  obtain hab | hba := le_total a b
  · have := lerp_mem_up hab hf
    omega
  · have := lerp_mem_down hba hf
    omega

theorem curveAt_mem (c : Curve) {pos : ℕ} (h : pos < 65536) : 0 ≤ curveAt c pos ∧ curveAt c pos ≤ 65536 := by
  cases c with
  | linear =>
    simp only [curveAt]
    omega
  | exponential =>
    exact lerp_mem_of_mem (shapeRom_mem (by omega)) (shapeRom_mem (by omega)) (Nat.mod_lt _ (by norm_num))

/-- INTERP as a weighted mean of its start and its target, with 16 fraction bits. -/
theorem interp_eq_mean (c : Curve) (S T : ℤ) (n len : ℕ) :
    interp c S T n len =
      (S * (65536 - curveAt c (n * 65536 / len)) + T * curveAt c (n * 65536 / len)) / 65536 := by
  have hsplit : ∀ k : ℤ, S * (65536 - k) + T * k = (T - S) * k + S * 65536 := fun k => by ring
  rw [interp, asr_eq_div, hsplit, Int.add_mul_ediv_right _ _ (by norm_num)]
  omega

theorem interp_mem (c : Curve) {S T hi : ℤ} {n len : ℕ} (hS : 0 ≤ S ∧ S ≤ hi) (hT : 0 ≤ T ∧ T ≤ hi) (hn : n < len) :
    0 ≤ interp c S T n len ∧ interp c S T n len ≤ hi := by
  obtain ⟨hk0, hk1⟩ := curveAt_mem c (pos := n * 65536 / len)
    (by rw [Nat.div_lt_iff_lt_mul (by omega), mul_comm]; exact Nat.mul_lt_mul_of_pos_left hn (by norm_num))
  rw [interp_eq_mean]
  generalize curveAt c (n * 65536 / len) = k at hk0 hk1
  constructor
  · exact Int.ediv_nonneg (add_nonneg (mul_nonneg hS.1 (by omega)) (mul_nonneg hT.1 hk0)) (by norm_num)
  · apply Int.ediv_le_of_le_mul (by norm_num)
    nlinarith [mul_le_mul_of_nonneg_right hS.2 (show 0 ≤ 65536 - k by omega), mul_le_mul_of_nonneg_right hT.2 hk0]

theorem ofLevel_interp_le (c : Curve) {S T : BitVec 17} {n len : ℕ} (hS : S.toNat ≤ 81920) (hT : T.toNat ≤ 81920)
    (hn : n < len) : (ofLevel (interp c (ofField S) (ofField T) n len)).toNat ≤ 81920 := by
  obtain ⟨hlo, hhi⟩ := interp_mem c (S := ofField S) (T := ofField T) (hi := 81920)
    (by unfold ofField; omega) (by unfold ofField; omega) hn
  have := ofLevel_toNat hlo (by omega)
  omega

/-! One step, from legal levels and registers -/

theorem Adsr.Legal.step {p : Params} {a : Adsr} (hp : p.Legal) (ha : a.Legal) : (a.step p).Legal := by
  have hpeak := hp.envOvershootHi
  have hsustain : p.envSustain.toNat ≤ 81920 := hp.envSustain.trans (by norm_num)
  obtain ⟨_, h⟩ | ⟨_, h⟩ | ⟨_, h⟩ | ⟨_, h⟩ | ⟨_, h⟩ | ⟨_, h⟩ := adsrStep_cases p a <;> rw [h]
  case inl => exact ha
  case inr.inl => unfold Adsr.stepDelay; split <;> exact ⟨ha.e, ha.sl⟩
  case inr.inr.inl =>
    unfold Adsr.stepAttack
    split
    · exact ⟨hpeak, hpeak⟩
    · exact ⟨ofLevel_interp_le _ ha.sl hpeak (by omega), ha.sl⟩
  case inr.inr.inr.inl =>
    unfold Adsr.stepDecay
    split
    · exact ⟨hsustain, ha.sl⟩
    · exact ⟨ofLevel_interp_le _ ha.sl hsustain (by omega), ha.sl⟩
  case inr.inr.inr.inr.inl => exact ⟨hsustain, ha.sl⟩
  case inr.inr.inr.inr.inr =>
    unfold Adsr.stepRelease
    split
    · exact ⟨Nat.zero_le _, ha.sl⟩
    · exact ⟨ofLevel_interp_le (T := 0) _ ha.sl (Nat.zero_le _) (by omega), ha.sl⟩

end Sys2Proof.Machine
end

section
/-! SUPPORT. The white generator is three xor-shifts, each one to one, and the noise filters fit their words. Settles
O56 and O57. -/

namespace Sys2Proof.Machine

/-! A word xored with its own shift determines the word -/

/-- Bit `i` of `x ^^^ x <<< k` is bit `i` of `x` xored with the lower bit `i - k`, so the bits are recovered upwards. -/
theorem xor_shiftLeft_injective {w k : ℕ} (hk : 0 < k) {x y : BitVec w} (h : x ^^^ x <<< k = y ^^^ y <<< k) :
    x = y := by
  apply BitVec.eq_of_getLsbD_eq
  intro i
  induction i using Nat.strong_induction_on with
  | _ i ih =>
    intro hi
    have hbit := congrArg (·.getLsbD i) h
    simp only [BitVec.getLsbD_xor, BitVec.getLsbD_shiftLeft] at hbit
    by_cases hik : i < k
    · simpa [hik] using hbit
    · simpa [hik, hi, ih (i - k) (by omega) (by omega)] using hbit

/-- Bit `i` of `x ^^^ x >>> k` is bit `i` of `x` xored with the higher bit `k + i`, so the bits are recovered
downwards, by induction on `w - i`. -/
theorem xor_ushiftRight_injective {w k : ℕ} (hk : 0 < k) {x y : BitVec w} (h : x ^^^ x >>> k = y ^^^ y >>> k) :
    x = y := by
  apply BitVec.eq_of_getLsbD_eq
  intro i _
  generalize hn : w - i = n
  induction n using Nat.strong_induction_on generalizing i with
  | _ n ih =>
    have hbit := congrArg (·.getLsbD i) h
    simp only [BitVec.getLsbD_xor, BitVec.getLsbD_ushiftRight] at hbit
    by_cases hik : k + i < w
    · simpa [ih (w - (k + i)) (by omega) (k + i) hik rfl] using hbit
    · simpa [BitVec.getLsbD_of_ge _ _ (not_lt.mp hik)] using hbit

theorem xorshift_injective {x y : Word} (h : xorshift x = xorshift y) : x = y :=
  xor_shiftLeft_injective (by norm_num) <| xor_ushiftRight_injective (by norm_num) <|
    xor_shiftLeft_injective (by norm_num) h

theorem xorshift_ne_zero {x : Word} (h : x ≠ 0) : xorshift x ≠ 0 := fun h0 =>
  h (xorshift_injective (h0.trans (by decide)))

theorem shiftLeft_eq_ofNat {w : ℕ} (x : BitVec w) (k : ℕ) : x <<< k = BitVec.ofNat w (x.toNat * 2 ^ k) := by
  apply BitVec.eq_of_toNat_eq
  simp [Nat.shiftLeft_eq]

theorem ushiftRight_eq_ofNat {w : ℕ} (x : BitVec w) (k : ℕ) : x >>> k = BitVec.ofNat w (x.toNat / 2 ^ k) := by
  apply BitVec.eq_of_toNat_eq
  rw [BitVec.toNat_ushiftRight, Nat.shiftRight_eq_div_pow, BitVec.toNat_ofNat,
    Nat.mod_eq_of_lt ((Nat.div_le_self _ _).trans_lt x.isLt)]

/-! The filters (R83): no bit is lost to a 32-bit word -/

theorem word_toInt_mem (x : Word) : -2147483648 ≤ x.toInt ∧ x.toInt ≤ 2147483647 := by
  have := x.le_toInt
  have := x.toInt_lt
  omega

theorem q16_eq_div (x c : Int) : q16 x c = x * c / 65536 := asr_eq_div _ _

theorem whiteSample_eq_div (x : Word) : whiteSample x = x.toInt / 2 ^ 8 := asr_eq_div _ _

theorem whiteSample_mem (x : Word) : -2 ^ 23 ≤ whiteSample x ∧ whiteSample x < 2 ^ 23 := by
  have := word_toInt_mem x
  rw [whiteSample_eq_div]
  omega

/-- A tap or an integrator holds its exact new value whenever that value is a 32-bit one. -/
theorem ofSample_filter_toInt (pb : Word) (k x g : Int)
    (h : -2147483648 ≤ pb.toInt * k / 65536 + x * g / 65536 ∧ pb.toInt * k / 65536 + x * g / 65536 ≤ 2147483647) :
    (ofSample (q16 pb.toInt k + q16 x g)).toInt = pb.toInt * k / 65536 + x * g / 65536 := by
  rw [q16_eq_div, q16_eq_div]
  exact ofSample_toInt h.1 h.2

end Sys2Proof.Machine

namespace Sys2Proof.Proofs

open Sys2Proof.Machine

/-- Settles O56: each of the three xor-shifts is one to one, and the state 0 is its own successor. -/
theorem whiteGeneratorSteps : Obligations.WhiteGeneratorSteps := by
  refine ⟨by decide, by decide, fun x => ⟨?_, whiteSample_eq_div x⟩, fun _ _ => xorshift_injective,
    fun _ => xorshift_ne_zero⟩
  simp only [← shiftLeft_eq_ofNat, ← ushiftRight_eq_ofNat]
  rfl

/-- Settles O57: with the white sample in [-2^23, 2^23) and every state a 32-bit value, each new tap and integrator
stays inside 32 bits. -/
theorem noiseFiltersAreExact : Obligations.NoiseFiltersAreExact := by
  intro c n b m1 m2 w t
  obtain ⟨hlo, hhi⟩ : -2 ^ 23 ≤ w ∧ w < 2 ^ 23 := whiteSample_mem _
  have h0 := word_toInt_mem b.pb0
  have h1 := word_toInt_mem b.pb1
  have h2 := word_toInt_mem b.pb2
  have h3 := word_toInt_mem b.pb3
  have h4 := word_toInt_mem b.pb4
  have h5 := word_toInt_mem b.pb5
  have hm1 := word_toInt_mem m1
  have hm2 := word_toInt_mem m2
  have ht := word_toInt_mem t.ms1
  refine ⟨whiteSample_eq_div _, hlo, hhi, rfl, ofSample_filter_toInt _ _ _ _ (by omega),
    ofSample_filter_toInt _ _ _ _ (by omega), ofSample_filter_toInt _ _ _ _ (by omega),
    ofSample_filter_toInt _ _ _ _ (by omega), ofSample_filter_toInt _ _ _ _ (by omega),
    ofSample_filter_toInt _ _ _ _ (by omega), ?_, ofSample_filter_toInt _ _ _ _ (by omega),
    ofSample_filter_toInt _ _ t.ms1.toInt _ (by omega), ?_, ?_, ?_⟩
  · show (ofSample (q16 w 7597)).toInt = _
    rw [q16_eq_div]
    exact ofSample_toInt (by omega) (by omega)
  · rintro rfl
    rfl
  · rintro rfl
    rfl
  · rintro rfl
    show pinkSample w b t.pink = _
    rw [pinkSample, pinkTotal, q16_eq_div, q16_eq_div]

end Sys2Proof.Proofs
end

section
/-! SUPPORT. R85 and the legal ranges under every operation, and the obligations O10, O11 and O12. -/

namespace Sys2Proof.Machine

open Sys2Proof.Config

/-! Active exactly when not Idle (R85) -/

/-- The voice is active exactly when its envelope is not Idle (R85). -/
def Voice.ActiveIff (x : Voice) : Prop := x.active = true ↔ x.adsr.stage ≠ .idle

@[simp] theorem writeVoice_active (x : Voice) (r : VReg) (d : Word) : (writeVoice x r d).active = x.active := by
  cases r <;> rfl

@[simp] theorem writeVoice_adsr (x : Voice) (r : VReg) (d : Word) : (writeVoice x r d).adsr = x.adsr := by
  cases r <;> rfl

theorem Adsr.trigger_stage_ne_idle (p : Params) (a : Adsr) : (a.trigger p).stage ≠ .idle := by
  unfold Adsr.trigger
  split <;> simp

/-- The outcomes of VOICE_RELEASE on a voice (R168). -/
theorem Voice.release_cases (x : Voice) :
    (x.active = true ∧ x.release = { x with adsr := x.adsr.startRelease }) ∨ (x.active = false ∧ x.release = x) := by
  cases h : x.active <;> simp [Voice.release, h]

/-- The outcomes of VOICE_RETRIGGER on a voice (R169). -/
theorem Voice.retrigger_cases (p : Params) (x : Voice) :
    (x.active = true ∧ Voice.retrigger p x = { x with adsr := x.adsr.trigger p }) ∨
      (x.active = false ∧ Voice.retrigger p x = x) := by
  cases h : x.active <;> simp [Voice.retrigger, h]

theorem Voice.ActiveIff.release {x : Voice} (h : x.ActiveIff) : x.release.ActiveIff := by
  obtain ⟨hx, hr⟩ | ⟨_, hr⟩ := x.release_cases <;> rw [hr]
  · simp [Voice.ActiveIff, Adsr.startRelease, hx]
  · exact h

theorem Voice.ActiveIff.retrigger (p : Params) {x : Voice} (h : x.ActiveIff) : (Voice.retrigger p x).ActiveIff := by
  obtain ⟨hx, hr⟩ | ⟨_, hr⟩ := x.retrigger_cases p <;> rw [hr]
  · simp [Voice.ActiveIff, Adsr.trigger_stage_ne_idle, hx]
  · exact h

/-- A voice that sounded is switched off in the frame in which its envelope becomes Idle (R200). -/
theorem Voice.ActiveIff.turn (p : Params) (lfo : Int) (v : Nat) {x : Voice} (h : x.ActiveIff) :
    (voiceTurn p lfo v x).voice.ActiveIff := by
  obtain ⟨_, ht⟩ | ⟨_, _, _, ht⟩ | ⟨_, hx, _, ht⟩ := voiceTurn_cases p lfo v x <;> rw [ht]
  · exact h
  · simp [Voice.ActiveIff]
  · by_cases hidle : (x.adsr.step p).stage = .idle <;> simp [Voice.ActiveIff, hx, hidle]

theorem activeIff_keptByOperations : KeptByOperations (fun _ => True) Voice.ActiveIff (fun _ => True) where
  writeParam _ _ _ _ := trivial
  writeDepth _ _ _ _ _ := trivial
  writeVoice x r d h := by simpa [Voice.ActiveIff] using h
  prepare v x _ := by simp [Voice.ActiveIff, Adsr.reset]
  start p x _ := by simp [Voice.ActiveIff, Adsr.trigger_stage_ne_idle]
  release _ h := h.release
  retrigger p _ h := h.retrigger p
  stop x _ := by simp [Voice.ActiveIff, Adsr.reset]
  turn p lfo v _ _ h := h.turn p lfo v
  latchL _ _ _ := trivial
  latchR _ _ _ := trivial
  clearTelem := trivial
  accumulate _ _ _ _ := trivial

/-! The values a write stores are legal -/

theorem legalU_toNat {w lo hi : ℕ} (d : Word) (h : hi < 2 ^ w) :
    (legalU w lo hi d).toNat = min (max d.toNat lo) hi := by
  rw [legalU, BitVec.toNat_ofNat, Nat.mod_eq_of_lt (by omega)]

theorem legalU_toNat_le {w lo hi : ℕ} (d : Word) (h : hi < 2 ^ w) : (legalU w lo hi d).toNat ≤ hi := by
  rw [legalU_toNat d h]
  omega

theorem le_legalU_toNat {w lo hi : ℕ} (d : Word) (h : hi < 2 ^ w) (hlo : lo ≤ hi) : lo ≤ (legalU w lo hi d).toNat := by
  rw [legalU_toNat d h]
  omega

theorem legalSigned_legalS (d : Word) : legalSigned (legalS d) := by
  obtain ⟨hlo, hhi⟩ := clamp_mem (lo := -65536) (hi := 65536) (by norm_num) d.toInt
  have : (legalS d).toInt = clamp d.toInt (-65536) 65536 := ofSample_toInt (by omega) (by omega)
  rw [legalSigned, this]
  exact ⟨hlo, hhi⟩

theorem legalSeed_ne_zero (d : Word) : legalSeed d ≠ 0 := by
  unfold legalSeed
  split
  · decide
  · assumption

theorem Params.Legal.writeParam {p : Params} (h : p.Legal) (g : GReg) (d : Word) : (writeParam p g d).Legal := by
  cases g
  case vcap => exact { h with vcap := legalU_toNat_le d (by decide) }
  case pcap => exact { h with pcap := legalU_toNat_le d (by decide) }
  case masterGain => exact { h with masterGain := legalU_toNat_le d (by decide) }
  case reso => exact { h with reso := legalU_toNat_le d (by decide) }
  case envAttack => exact { h with envAttack := le_legalU_toNat d (by decide) (by decide) }
  case envDecay => exact { h with envDecay := le_legalU_toNat d (by decide) (by decide) }
  case envSustain => exact { h with envSustain := legalU_toNat_le d (by decide) }
  case envRelease => exact { h with envRelease := le_legalU_toNat d (by decide) (by decide) }
  case envOvershoot =>
    exact
      { h with
        envOvershootLo := le_legalU_toNat d (by decide) (by decide)
        envOvershootHi := legalU_toNat_le d (by decide) }
  case punchMix => exact { h with punchMix := legalU_toNat_le d (by decide) }
  case punchDrive =>
    exact
      { h with
        punchDriveLo := le_legalU_toNat d (by decide) (by decide)
        punchDriveHi := legalU_toNat_le d (by decide) }
  case noiseLevel => exact { h with noiseLevel := legalU_toNat_le d (by decide) }
  case move => exact { h with move := legalU_toNat_le d (by decide) }
  all_goals exact { h with }

theorem Params.Legal.writeDepth {p : Params} (h : p.Legal) (dst : Fin 3) (src : Fin 4) (d : Word) :
    (writeDepth p dst src d).Legal :=
  { h with
    modDepth := fun k => by
      simp only [Machine.writeDepth, Fin.getElem_fin, Vector.getElem_set]
      split
      · exact legalSigned_legalS d
      · exact h.modDepth k }

theorem Voice.Legal.writeVoice {x : Voice} (h : x.Legal) (r : VReg) (d : Word) : (writeVoice x r d).Legal := by
  cases r
  case vpan => exact { h with vpan := legalU_toNat_le d (by decide) }
  case vvel => exact { h with vvel := legalSigned_legalS d }
  case vpres => exact { h with vpres := legalSigned_legalS d }
  case vnstate => exact { h with vnstate := legalSeed_ne_zero d }
  all_goals exact { h with }

/-! The internal values stay legal -/

theorem Adsr.Legal.trigger (p : Params) {a : Adsr} (h : a.Legal) : (a.trigger p).Legal := ⟨h.e, h.e⟩

theorem Adsr.Legal.startRelease {a : Adsr} (h : a.Legal) : a.startRelease.Legal := ⟨h.e, h.e⟩

theorem Adsr.legal_reset : Adsr.reset.Legal := ⟨by decide, by decide⟩

theorem seed_ne_zero (v : Fin NV) : seed v.val ≠ 0 := by
  revert v
  decide

theorem Voice.Legal.release {x : Voice} (h : x.Legal) : x.release.Legal := by
  have hactive := Voice.ActiveIff.release h.activeIff
  obtain ⟨_, hr⟩ | ⟨_, hr⟩ := x.release_cases <;> rw [hr] at hactive ⊢
  · exact { h with adsr := h.adsr.startRelease, activeIff := hactive }
  · exact h

theorem Voice.Legal.retrigger (p : Params) {x : Voice} (h : x.Legal) : (Voice.retrigger p x).Legal := by
  have hactive := Voice.ActiveIff.retrigger p h.activeIff
  obtain ⟨_, hr⟩ | ⟨_, hr⟩ := x.retrigger_cases p <;> rw [hr] at hactive ⊢
  · exact { h with adsr := h.adsr.trigger p, activeIff := hactive }
  · exact h

theorem Voice.Legal.turn {p : Params} (hp : p.Legal) (lfo : Int) (v : Nat) {x : Voice} (h : x.Legal) :
    (voiceTurn p lfo v x).voice.Legal := by
  have hactive := Voice.ActiveIff.turn p lfo v h.activeIff
  obtain ⟨_, ht⟩ | ⟨_, _, _, ht⟩ | ⟨_, _, _, ht⟩ := voiceTurn_cases p lfo v x <;> rw [ht] at hactive ⊢
  · exact h
  · exact { h with adsr := ⟨Nat.zero_le _, h.adsr.sl⟩, activeIff := hactive }
  · exact { h with vnstate := xorshift_ne_zero h.vnstate, adsr := h.adsr.step hp, activeIff := hactive }

theorem OutSample.natAbs_toInt_le (x : OutSample) : x.toInt.natAbs ≤ 8388608 := by
  have := x.toInt_lt
  have := x.le_toInt
  omega

theorem Telem.Legal.accumulate {t : Telem} (h : t.Legal) (l r : OutSample) : (t.accumulate l r).Legal := by
  obtain ⟨hl, hr⟩ := h
  have := OutSample.natAbs_toInt_le l
  have := OutSample.natAbs_toInt_le r
  constructor <;> simp only [Telem.accumulate, BitVec.toNat_ofNat] <;> omega

theorem legal_keptByOperations : KeptByOperations Params.Legal Voice.Legal Telem.Legal where
  writeParam _ g d h := h.writeParam g d
  writeDepth _ dst src d h := h.writeDepth dst src d
  writeVoice _ r d h := h.writeVoice r d
  prepare v x h :=
    { h with
      vnstate := seed_ne_zero v
      adsr := Adsr.legal_reset
      activeIff := activeIff_keptByOperations.prepare v x h.activeIff }
  start p x h :=
    { h with
      adsr := Adsr.Legal.trigger p ⟨Nat.zero_le _, h.adsr.sl⟩
      activeIff := activeIff_keptByOperations.start p x h.activeIff }
  release _ h := h.release
  retrigger p _ h := h.retrigger p
  stop x h := { h with adsr := Adsr.legal_reset, activeIff := activeIff_keptByOperations.stop x h.activeIff }
  turn _ lfo v _ hp h := h.turn hp lfo v
  latchL _ _ h := ⟨h.peakL, h.peakR⟩
  latchR _ _ h := ⟨h.peakL, h.peakR⟩
  clearTelem := ⟨Nat.zero_le _, Nat.zero_le _⟩
  accumulate _ l r h := h.accumulate l r

theorem State.legal_iff_meets (s : State) : s.Legal ↔ s.Meets Params.Legal Voice.Legal Telem.Legal :=
  ⟨fun ⟨hp, hv, ht⟩ => ⟨hp, hv, ht⟩, fun ⟨hp, hv, ht⟩ => ⟨hp, hv, ht⟩⟩

/-! Reset -/

theorem voicesReset_getElem (v : Fin NV) : voicesReset[v] = Voice.reset v.val := by
  revert v
  decide

theorem Voice.activeIff_reset (v : ℕ) : (Voice.reset v).ActiveIff := by
  simp [Voice.ActiveIff, Voice.reset, Adsr.reset]

theorem Voice.legal_reset (v : Fin NV) : (Voice.reset v.val).Legal where
  vpan := (by decide : (32768 : BitVec 17).toNat ≤ 65536)
  vvel := (by decide : -65536 ≤ (0 : Word).toInt ∧ (0 : Word).toInt ≤ 65536)
  vpres := (by decide : -65536 ≤ (0 : Word).toInt ∧ (0 : Word).toInt ≤ 65536)
  vnstate := seed_ne_zero v
  adsr := Adsr.legal_reset
  activeIff := Voice.activeIff_reset v.val

theorem Params.legal_reset : Params.reset.Legal := by
  constructor
  case modDepth =>
    intro k
    simp [Params.reset, legalSigned]
  all_goals decide

end Sys2Proof.Machine

namespace Sys2Proof.Proofs

open Sys2Proof.Config Sys2Proof.Machine

/-- Settles O10, part by part. -/
theorem resetIsLegal : Obligations.ResetIsLegal where
  params := Params.legal_reset
  voices v := (voicesReset_getElem v).symm ▸ Voice.legal_reset v
  telem := legal_keptByOperations.clearTelem

/-- Settles O11: legality is one of the properties that every operation keeps. -/
theorem stepKeepsLegal : Obligations.StepKeepsLegal := fun s t h hstep =>
  t.legal_iff_meets.mpr (legal_keptByOperations.step (s.legal_iff_meets.mp h) hstep)

/-- Settles O12: R85 is one of the properties that every operation keeps, alone, without the legal ranges. -/
theorem activeExactlyWhenNotIdle : Obligations.ActiveExactlyWhenNotIdle :=
  ⟨fun v => (voicesReset_getElem v).symm ▸ Voice.activeIff_reset v.val,
    fun _ _ h hstep => (activeIff_keptByOperations.step ⟨trivial, h, trivial⟩ hstep).voices⟩

end Sys2Proof.Proofs
end

section
/-! SUPPORT. The oscillator bank: the wave is bounded by its table and the table by the sine (R211), and the sum of the
capped lists is a sum over the partials below PCAP. Settles O44. -/

namespace Sys2Proof.Machine

open Sys2Proof.Config Sys2Proof.Claims

theorem abs_roundAway_le {x : ℝ} {n : ℤ} (h : |x| ≤ n) : |roundAway x| ≤ n := by
  obtain ⟨hlo, hhi⟩ := abs_le.mp h
  have floor_le : ∀ y : ℝ, y ≤ n → ⌊y + 1 / 2⌋ ≤ n := fun y hy =>
    Int.lt_add_one_iff.mp (Int.floor_lt.mpr (by push_cast; linarith))
  unfold roundAway
  split
  · next hneg =>
    have : 0 ≤ ⌊-x + 1 / 2⌋ := Int.floor_nonneg.mpr (by linarith)
    rw [abs_neg, abs_of_nonneg this]
    exact floor_le (-x) (by linarith)
  · next hpos =>
    have : 0 ≤ ⌊x + 1 / 2⌋ := Int.floor_nonneg.mpr (by linarith)
    rw [abs_of_nonneg this]
    exact floor_le x hhi

theorem sineRom_mem {i : ℕ} (hi : i < 2048) : -8388607 ≤ sineRom i ∧ sineRom i ≤ 8388607 := by
  rw [← abs_le, Proofs.sineRomIsRoundedSine i hi]
  apply abs_roundAway_le
  rw [abs_mul, Nat.abs_ofNat]
  push_cast
  exact mul_le_of_le_one_right (by norm_num) (Real.abs_sin_le_one _)

theorem wave_mem (ph : Word) : -8388607 ≤ wave ph ∧ wave ph ≤ 8388607 :=
  lerp_mem_of_mem (sineRom_mem (BitVec.isLt _)) (sineRom_mem (Nat.mod_lt _ (by norm_num))) (BitVec.isLt _)

theorem partialTerm_eq_div (ph : Word) (amp : BitVec 16) :
    partialTerm ph amp = wave ph * (amp.toNat : Int) / 2 ^ 15 := asr_eq_div _ _

theorem abs_partialTerm_lt (ph : Word) (amp : BitVec 16) : |partialTerm ph amp| < 2 ^ 24 := by
  obtain ⟨hlo, hhi⟩ := wave_mem ph
  have hamp : (amp.toNat : ℤ) ≤ 65535 := by have := amp.isLt; omega
  have hmul : |wave ph * (amp.toNat : ℤ)| ≤ 8388607 * 65535 := by
    rw [abs_mul, Nat.abs_cast]
    exact mul_le_mul (abs_le.mpr ⟨hlo, hhi⟩) hamp (by positivity) (by norm_num)
  rw [abs_le] at hmul
  rw [partialTerm_eq_div, abs_lt]
  omega

theorem zipWith_toList_eq_ofFn {α β γ : Type} {n : ℕ} (f : α → β → γ) (xs : Vector α n) (ys : Vector β n) :
    List.zipWith f xs.toList ys.toList = List.ofFn fun i : Fin n => f xs[i] ys[i] := by
  apply List.ext_getElem <;> simp

/-- Cutting both lists at PCAP is summing over the partials below it (R214). -/
theorem oscSum_eq_sum (pcap : BitVec 7) (phase : Vector Word NP) (pamp : Vector (BitVec 16) NP) :
    oscSum pcap phase pamp = ∑ p : Fin NP, if p.val < pcap.toNat then partialTerm phase[p] pamp[p] else 0 := by
  rw [oscSum, ← List.take_zipWith, zipWith_toList_eq_ofFn, List.sum_take_ofFn, Finset.sum_filter]

theorem abs_oscSum_lt (pcap : BitVec 7) (phase : Vector Word NP) (pamp : Vector (BitVec 16) NP) :
    |oscSum pcap phase pamp| < 2 ^ 30 := by
  have hterm : ∀ p ∈ (Finset.univ : Finset (Fin NP)),
      |if p.val < pcap.toNat then partialTerm phase[p] pamp[p] else 0| ≤ (2 ^ 24 - 1 : ℤ) := by
    intro p _
    split
    · exact Int.le_sub_one_of_lt (abs_partialTerm_lt _ _)
    · norm_num
  rw [oscSum_eq_sum]
  calc |∑ p : Fin NP, if p.val < pcap.toNat then partialTerm phase[p] pamp[p] else 0|
      ≤ ∑ p : Fin NP, |if p.val < pcap.toNat then partialTerm phase[p] pamp[p] else 0| :=
        Finset.abs_sum_le_sum_abs _ _
    _ ≤ Finset.card (Finset.univ : Finset (Fin NP)) • (2 ^ 24 - 1 : ℤ) := Finset.sum_le_card_nsmul _ _ _ hterm
    _ < 2 ^ 30 := by norm_num

end Sys2Proof.Machine

namespace Sys2Proof.Proofs

open Sys2Proof.Config Sys2Proof.Machine

/-- Settles O44: everything follows from the sum over the partials below PCAP. -/
theorem oscSumIsBoundedCappedSum : Obligations.OscSumIsBoundedCappedSum := by
  refine ⟨fun ph amp => ⟨partialTerm_eq_div ph amp, abs_partialTerm_lt ph amp⟩, fun pcap phase pamp => ⟨?_, ?_⟩, ?_, ?_⟩
  · simp only [oscSum_eq_sum, partialTerm_eq_div]
  · exact abs_oscSum_lt pcap phase pamp
  · intro phase pamp
    simp [oscSum_eq_sum]
  · intro pcap phase phase' pamp pamp' hagree
    rw [oscSum_eq_sum, oscSum_eq_sum]
    refine Finset.sum_congr rfl fun p _ => ?_
    split
    · next hp =>
      obtain ⟨hphase, hpamp⟩ := hagree p hp
      rw [hphase, hpamp]
    · rfl

end Sys2Proof.Proofs
end

section
/-! SUPPORT. Address decoding against the tables of the spec: each register is decoded at its own address, nothing else
is decoded to it, and the aligned addresses outside the holes decode to a register. Settles O16. -/

namespace Sys2Proof.Machine

open Sys2Proof.Config Sys2Proof.Claims

theorem toNat_extract_low_bits (a : Addr) : (a.extractLsb' 0 2).toNat = a.toNat % 4 := by
  simp

theorem misaligned_eq_false_iff (a : Addr) : misaligned a = false ↔ a.toNat % 4 = 0 := by
  rw [misaligned, bne_eq_false_iff_eq, ← BitVec.toNat_inj, toNat_extract_low_bits]
  rfl

theorem accessReg_eq_some_iff (a : Addr) (r : Reg) :
    accessReg a = some r ↔ a.toNat % 4 = 0 ∧ decodeAddr a = some r := by
  rw [← misaligned_eq_false_iff, accessReg]
  cases misaligned a <;> simp

/-! The addresses of the model are those of the tables -/

theorem GReg.addr_eq_globalAddr (g : GReg) : g.addr = globalAddr g := by cases g <;> rfl

theorem VReg.offset_eq_voiceOffset (r : VReg) : r.offset = voiceOffset r := by cases r <;> rfl

theorem Reg.addr_eq_tableAddr (r : Reg) : r.addr = tableAddr r := by
  cases r with
  | glob g => exact g.addr_eq_globalAddr
  | modDepth d k => rfl
  | voice v r => exact congrArg _ r.offset_eq_voiceOffset

theorem GReg.addr_lt (g : GReg) : g.addr < 0x100 ∧ g.addr % 4 = 0 := by cases g <;> decide

theorem VReg.offset_lt (r : VReg) : r.offset < 0x400 ∧ r.offset % 4 = 0 := by
  cases r
  case pinc p | pamp p | phase p =>
    have hp : p.val < 64 := p.isLt
    simp only [VReg.offset]
    omega
  all_goals decide

theorem Reg.addr_lt (r : Reg) : r.addr < 0x5000 ∧ r.addr % 4 = 0 := by
  cases r with
  | glob g =>
    have := g.addr_lt
    simp only [Reg.addr]
    omega
  | modDepth d k => simp only [Reg.addr]; omega
  | voice v r =>
    have hv : v.val < 16 := v.isLt
    have := r.offset_lt
    simp only [Reg.addr, voiceBase]
    omega

/-! Global registers -/

theorem GReg.find_addr (g : GReg) : GReg.all.find? (fun q => q.addr == g.addr) = some g := by cases g <;> rfl

theorem GReg.addr_of_find {n : ℕ} {g : GReg} (h : GReg.all.find? (fun q => q.addr == n) = some g) : g.addr = n := by
  simpa using List.find?_some h

theorem GReg.find_isSome {n : ℕ} (h4 : n % 4 = 0) (hn : n < 0xA0) (hhole : n ≠ 0x6C) :
    (GReg.all.find? (fun q => q.addr == n)).isSome := by
  have table : ∀ k < 40, k ≠ 27 → (GReg.all.find? (fun q => q.addr == 4 * k)).isSome := by decide
  have := table (n / 4) (by omega) (by omega)
  rwa [show 4 * (n / 4) = n by omega] at this

/-! The registers of a voice block -/

theorem decodeOffset_offset (r : VReg) : decodeOffset r.offset = some r := by
  cases r
  case pinc p =>
    have hp : 0x100 + 4 * p.val < 0x200 := by have : p.val < 64 := p.isLt; omega
    simp [decodeOffset, VReg.offset, hp]
  case pamp p =>
    have hp : ¬0x200 + 4 * p.val < 0x100 ∧ ¬0x200 + 4 * p.val < 0x200 ∧ 0x200 + 4 * p.val < 0x300 := by
      have : p.val < 64 := p.isLt
      omega
    simp [decodeOffset, VReg.offset, hp]
  case phase p =>
    have hp : ¬0x300 + 4 * p.val < 0x100 ∧ ¬0x300 + 4 * p.val < 0x200 ∧ ¬0x300 + 4 * p.val < 0x300 ∧
        0x300 + 4 * p.val < 0x400 := by
      have : p.val < 64 := p.isLt
      omega
    simp [decodeOffset, VReg.offset, hp]
  all_goals rfl

theorem offset_of_decodeOffset {o : ℕ} {r : VReg} (h4 : o % 4 = 0) (h : decodeOffset o = some r) : r.offset = o := by
  unfold decodeOffset at h
  split_ifs at h
  · simpa using List.find?_some h
  all_goals
    obtain rfl := Option.some.inj h
    simp only [VReg.offset]
    omega

theorem decodeOffset_isSome {o : ℕ} (h4 : o % 4 = 0) (ho : o < 0x400) (hhole : o < 0x24 ∨ 0x100 ≤ o) :
    (decodeOffset o).isSome := by
  have table : ∀ k < 9, (VReg.fixed.find? (fun r => r.offset == 4 * k)).isSome := by decide
  unfold decodeOffset
  split
  · have := table (o / 4) (by omega)
    rwa [show 4 * (o / 4) = o by omega] at this
  split
  · rfl
  split
  · rfl
  · rfl

/-! The whole map -/

theorem decodeAddr_addr {a : Addr} {r : Reg} (h : a.toNat = r.addr) : decodeAddr a = some r := by
  cases r with
  | glob g =>
    have hlt := g.addr_lt
    have ha : a.toNat = g.addr := h
    rw [decodeAddr, if_pos (by omega), ha, GReg.find_addr]
    rfl
  | modDepth d k =>
    have ha : a.toNat = 0x100 + 4 * (4 * d.val + k.val) := h
    have hd : (a.toNat - 0x100) / 16 = d.val := by omega
    have hk : (a.toNat - 0x100) / 4 % 4 = k.val := by omega
    rw [decodeAddr, if_neg (by omega), if_pos (by omega), dif_pos (by omega)]
    simp only [hd, hk]
  | voice v r =>
    have hlt := r.offset_lt
    have ha : a.toNat = 0x1000 + 0x400 * v.val + r.offset := h
    have hv : (a.toNat - 0x1000) / 0x400 = v.val := by omega
    have hr : (a.toNat - 0x1000) % 0x400 = r.offset := by omega
    rw [decodeAddr, if_neg (by omega), if_neg (by omega), dif_pos (by omega)]
    simp only [hv, hr, decodeOffset_offset, Option.map_some]

theorem addr_of_decodeAddr {a : Addr} {r : Reg} (h4 : a.toNat % 4 = 0) (h : decodeAddr a = some r) :
    a.toNat = r.addr := by
  unfold decodeAddr at h
  split at h
  · obtain ⟨g, hg, rfl⟩ := Option.map_eq_some_iff.mp h
    exact (GReg.addr_of_find hg).symm
  split at h
  · split at h
    · obtain rfl := Option.some.inj h
      simp only [Reg.addr]
      omega
    · contradiction
  split at h
  · obtain ⟨q, hq, rfl⟩ := Option.map_eq_some_iff.mp h
    have := offset_of_decodeOffset (by omega) hq
    simp only [Reg.addr, voiceBase]
    omega
  · contradiction

theorem accessReg_eq_some_iff_addr (a : Addr) (r : Reg) : accessReg a = some r ↔ a.toNat = r.addr := by
  rw [accessReg_eq_some_iff]
  constructor
  · rintro ⟨h4, h⟩
    exact addr_of_decodeAddr h4 h
  · intro h
    exact ⟨by have := r.addr_lt; omega, decodeAddr_addr h⟩

/-- The holes of R101 are all that decoding leaves out. -/
theorem decodeAddr_isSome {a : Addr} (h4 : a.toNat % 4 = 0) (h : ¬Unmapped a) : (decodeAddr a).isSome := by
  simp only [Unmapped, not_or, not_and, not_lt, not_le] at h
  obtain ⟨hsingle, hglobal, hdepth, hvoice, hend⟩ := h
  unfold decodeAddr
  split
  · rw [Option.isSome_map]
    exact GReg.find_isSome h4 (by omega) hsingle
  split
  · rw [dif_pos (by omega)]
    rfl
  · rw [dif_pos (show (a.toNat - 0x1000) / 0x400 < 16 by omega), Option.isSome_map]
    exact decodeOffset_isSome (by omega) (by omega) (by omega)

end Sys2Proof.Machine

namespace Sys2Proof.Proofs

open Sys2Proof.Machine Sys2Proof.Claims

/-- Settles O16: decoding answers a register exactly at the register's own address, which is the table's. -/
theorem addressNamesOneRegister : Obligations.AddressNamesOneRegister := by
  refine ⟨fun a r => ?_, Reg.addr_eq_tableAddr, fun a halign hmapped => ?_⟩
  · rw [accessReg_eq_some_iff_addr, Reg.addr_eq_tableAddr]
  · have h4 : a.toNat % 4 = 0 := by rw [← toNat_extract_low_bits, halign]; rfl
    obtain ⟨r, hr⟩ := Option.isSome_iff_exists.mp (decodeAddr_isSome h4 hmapped)
    exact ⟨r, (accessReg_eq_some_iff a r).mpr ⟨h4, hr⟩⟩

end Sys2Proof.Proofs
end

section
/-! SUPPORT. What an RD of a register answers, and what each register reads of the state. Settles O17, O18 and O19. -/

namespace Sys2Proof.Machine

open Sys2Proof.Config Sys2Proof.Claims

/-! RD of a register -/

theorem busAddr_toNat (r : Reg) : (busAddr r).toNat = r.addr := by
  have := r.addr_lt
  rw [busAddr, ← r.addr_eq_tableAddr, BitVec.toNat_ofNat, Nat.mod_eq_of_lt (by omega)]

@[simp] theorem accessReg_busAddr (r : Reg) : accessReg (busAddr r) = some r :=
  (accessReg_eq_some_iff_addr _ r).mpr (busAddr_toNat r)

theorem exec_rd_busAddr (r : Reg) (s : State) :
    exec (.rd (busAddr r)) s = .next ((readEffect s r).returnWord (readValue s r)) := by
  simp [readState, readData]

/-! The two reads of an energy (R63, R64) -/

theorem extract_high_append_low (e : BitVec 64) : e.extractLsb' 32 32 ++ e.extractLsb' 0 32 = e := by
  apply BitVec.eq_of_getLsbD_eq
  intro i hi
  rw [BitVec.getLsbD_append, BitVec.getLsbD_extractLsb', BitVec.getLsbD_extractLsb']
  by_cases h : i < 32
  · simp [h]
  · have : 32 + (i - 32) = i := by omega
    simp [h, this, show i - 32 < 32 by omega]

theorem iterate_frame_eq {α : Type} {f : State → α} (h : ∀ u : State, f u.frame = f u) (n : ℕ) (s : State) :
    f (State.frame^[n] s) = f s := by
  induction n with
  | zero => rfl
  | succ n ih => rw [Function.iterate_succ_apply', h, ih]

@[simp] theorem State.frame_reads (s : State) : s.frame.reads = s.reads := by
  obtain ⟨_, h⟩ | ⟨_, h⟩ := frame_cases s <;> simp [h]

@[simp] theorem State.frame_eshadowL (s : State) : s.frame.telem.eshadowL = s.telem.eshadowL := by
  obtain ⟨_, h⟩ | ⟨_, h⟩ := frame_cases s <;> simp [h, Telem.accumulate]

@[simp] theorem State.frame_eshadowR (s : State) : s.frame.telem.eshadowR = s.telem.eshadowR := by
  obtain ⟨_, h⟩ | ⟨_, h⟩ := frame_cases s <;> simp [h, Telem.accumulate]

@[simp] theorem readEffect_reads (s : State) (r : Reg) : (readEffect s r).reads = s.reads := by
  obtain h | h | h := readEffect_cases s r <;> simp [h]

@[simp] theorem readValue_returnWord (s : State) (w : Word) (r : Reg) :
    readValue (s.returnWord w) r = readValue s r := by
  cases r with
  | glob g => cases g <;> rfl
  | modDepth d k => rfl
  | voice v r => rfl

/-- If reading `rlo` returns the low word of `e` and leaves `rhi` reading its high word, and neither a tick nor its own
read moves `rhi`, the two reads return the two words of `e` (R398). -/
theorem latched_reads_consistent (s : State) (n : ℕ) {rlo rhi : Reg} {e : BitVec 64}
    (hlo : readValue s rlo = e.extractLsb' 0 32) (hhi : readValue (readEffect s rlo) rhi = e.extractLsb' 32 32)
    (hframe : ∀ u : State, readValue u.frame rhi = readValue u rhi) (heffect : ∀ u : State, readEffect u rhi = u) :
    ∃ t u lo hi, exec (.rd (busAddr rlo)) s = .next t ∧ exec (.rd (busAddr rhi)) (State.frame^[n] t) = .next u ∧
      u.reads = s.reads ++ [lo, hi] ∧ hi ++ lo = e := by
  refine ⟨_, _, e.extractLsb' 0 32, e.extractLsb' 32 32, exec_rd_busAddr rlo s, exec_rd_busAddr rhi _, ?_,
    extract_high_append_low e⟩
  have hreads := iterate_frame_eq (f := State.reads) State.frame_reads n
  have hvalue := iterate_frame_eq (f := (readValue · rhi)) hframe n
  simp [heffect, hreads, hvalue, hlo, hhi]

/-! The value of each register -/

theorem field_toNat {w : ℕ} (b : BitVec w) (h : w ≤ 32) : (field b).toNat = b.toNat := by
  rw [field, BitVec.toNat_setWidth, Nat.mod_eq_of_lt (b.isLt.trans_le (Nat.pow_le_pow_right (by norm_num) h))]

theorem State.statusWord_toNat (s : State) : s.statusWord.toNat = s.cmdErr.toNat + 2 * s.busErr.toNat := by
  unfold State.statusWord
  cases s.cmdErr <;> cases s.busErr <;> rfl

theorem activeBits_testBit (xs : List Voice) (i : ℕ) :
    (activeBits xs).testBit i = (xs[i]?.map Voice.active).getD false := by
  induction xs generalizing i with
  | nil => simp [activeBits]
  | cons x xs ih =>
    cases i with
    | zero => cases h : x.active <;> simp [activeBits, Nat.testBit_zero, h]
    | succ i =>
      have : activeBits (x :: xs) / 2 = activeBits xs := by
        have := x.active.toNat_lt
        simp only [activeBits]
        omega
      rw [Nat.testBit_succ, this, ih, List.getElem?_cons_succ]

theorem activeBits_lt (xs : List Voice) : activeBits xs < 2 ^ xs.length := by
  induction xs with
  | nil => simp [activeBits]
  | cons x xs ih =>
    have := x.active.toNat_lt
    rw [activeBits, List.length_cons, pow_succ]
    omega

theorem State.vactive_toNat (s : State) : s.vactive.toNat = activeBits s.voices.toList ∧ s.vactive.toNat < 65536 := by
  have hlt := activeBits_lt s.voices.toList
  rw [Vector.length_toList] at hlt
  have hnat : s.vactive.toNat = activeBits s.voices.toList :=
    (BitVec.toNat_ofNat _ _).trans (Nat.mod_eq_of_lt (hlt.trans (by norm_num)))
  exact ⟨hnat, hnat ▸ hlt⟩

theorem State.vactive_getLsbD (s : State) (v : Fin NV) : s.vactive.getLsbD v.val = (s.voices[v]).active := by
  rw [← BitVec.testBit_toNat, s.vactive_toNat.1, activeBits_testBit]
  simp

theorem countP_ofFn {α : Type} {n : ℕ} (p : α → Bool) (f : Fin n → α) :
    (List.ofFn f).countP p = (Finset.univ.filter fun i => p (f i) = true).card := by
  induction n with
  | zero => simp
  | succ n ih => rw [List.ofFn_succ, List.countP_cons, ih, Fin.card_filter_univ_succ', Nat.add_comm]

theorem State.activeCount_toNat (s : State) :
    s.activeCount.toNat = (Finset.univ.filter fun v : Fin NV => (s.voices[v]).active = true).card := by
  have hofFn : s.voices.toList = List.ofFn fun v : Fin NV => s.voices[v] := by
    rw [← Vector.toList_ofFn]
    simp
  have hle := List.countP_le_length (p := Voice.active) (l := s.voices.toList)
  rw [Vector.length_toList] at hle
  rw [State.activeCount, BitVec.toNat_ofNat, Nat.mod_eq_of_lt (hle.trans_lt (by norm_num)), hofFn, countP_ofFn]

theorem Voice.vstat_toNat (x : Voice) : x.vstat.toNat = x.active.toNat + 2 * x.adsr.stage.code.toNat := by
  rw [Voice.vstat, field_toNat _ (by norm_num)]
  cases x.active <;> cases x.adsr.stage <;> rfl

/-- Every parameter register reads its field. -/
theorem readGlobal_of_mem_paramFields (s : State) {c : GReg × ℕ} (h : c ∈ paramFields s.params) :
    (readGlobal s c.1).toNat = c.2 := by
  revert c
  simp (disch := norm_num) only [paramFields, List.forall_mem_cons, List.not_mem_nil, false_implies, implies_true,
    readGlobal, field_toNat, BitVec.toNat_ofBool, true_and, and_true]
  refine ⟨?_, ?_, ?_⟩
  · cases s.params.envMode <;> rfl
  · cases s.params.vcaMode <;> rfl
  · cases s.params.noiseSel <;> rfl

end Sys2Proof.Machine

namespace Sys2Proof.Proofs

open Sys2Proof.Config Sys2Proof.Machine Sys2Proof.Claims

/-- Settles O17: `readEffect` loads the one latch that its register names. -/
theorem readReturnsValueAndOnlyLatches : Obligations.ReadReturnsValueAndOnlyLatches := by
  intro r s
  rw [exec_rd_busAddr]
  by_cases hl : r = .glob .energyLLo
  · subst hl
    rfl
  by_cases hr : r = .glob .energyRLo
  · subst hr
    rfl
  · simp only [readEffect, hl, hr, if_false]
    rfl

/-- Settles O18: the latch holds the high word, and no tick moves it. -/
theorem energyReadIsConsistent : Obligations.EnergyReadIsConsistent := fun s n =>
  ⟨fun _ => rfl,
    latched_reads_consistent s n (rlo := .glob .energyLLo) (rhi := .glob .energyLHi) rfl rfl State.frame_eshadowL
      fun _ => rfl,
    latched_reads_consistent s n (rlo := .glob .energyRLo) (rhi := .glob .energyRHi) rfl rfl State.frame_eshadowR
      fun _ => rfl⟩

/-- Settles O19, register by register. -/
theorem registersReadState : Obligations.RegistersReadState := by
  intro s
  refine ⟨rfl, rfl, s.statusWord_toNat, rfl, rfl, BitVec.toInt_signExtend_of_le (by norm_num),
    BitVec.toInt_signExtend_of_le (by norm_num), field_toNat _ (by norm_num), field_toNat _ (by norm_num),
    by simp [readValue, readGlobal], by simp [readValue, readGlobal], rfl, rfl, rfl, s.vactive_getLsbD,
    s.vactive_toNat.2, s.activeCount_toNat, fun c hc => readGlobal_of_mem_paramFields s hc, ?_, fun v => ?_⟩
  · intro d k i hi
    have : i = depthIndex d k := Fin.ext hi
    rw [this]
    rfl
  · refine ⟨⟨_, (s.voices[v]).vstat_toNat, ?_⟩, rfl, rfl, field_toNat _ (by norm_num), rfl, rfl, rfl,
      field_toNat _ (by norm_num), rfl, fun p => ⟨rfl, field_toNat _ (by norm_num), rfl⟩⟩
    cases (s.voices[v]).adsr.stage <;> decide

end Sys2Proof.Proofs
end

section
/-! SUPPORT. What a WR to a register stores, what it leaves, and that writing twice is writing once. Settles O20, O21
and O22. -/

namespace Sys2Proof.Machine

open Sys2Proof.Config Sys2Proof.Claims

theorem exec_wr_busAddr {r : Reg} (h : r.readOnly = false) (d : Word) (s : State) :
    exec (.wr (busAddr r) d) s = .next (writeReg s r d) := by
  simp [writeState, h]

/-! The stored value as it reads back -/

theorem field_legalU {w lo hi : ℕ} (d : Word) (hw : w ≤ 32) (hhi : hi < 2 ^ w) :
    field (legalU w lo hi d) = clampWord lo hi d := by
  apply BitVec.eq_of_toNat_eq
  have hword : 2 ^ w ≤ 2 ^ 32 := Nat.pow_le_pow_right (by norm_num) hw
  rw [field_toNat _ hw, legalU_toNat d hhi, clampWord, BitVec.toNat_ofNat, Nat.mod_eq_of_lt (by omega)]

theorem field_bit_zero (d : Word) : field (BitVec.ofBool (d.getLsbD 0)) = d &&& 1 :=
  (BitVec.and_one_eq_setWidth_ofBool_getLsbD (x := d)).symm

theorem legalCurve_code (d : Word) : (legalCurve d).code = d &&& 1 := by
  rw [← field_bit_zero, legalCurve]
  cases d.getLsbD 0 <;> rfl

theorem legalResponse_code (d : Word) : (legalResponse d).code = d &&& 1 := by
  rw [← field_bit_zero, legalResponse]
  cases d.getLsbD 0 <;> rfl

theorem and_three_eq_field (d : Word) : d &&& 3 = field (d.extractLsb' 0 2) := by
  apply BitVec.eq_of_toNat_eq
  rw [field_toNat _ (by norm_num), BitVec.toNat_and, BitVec.extractLsb'_toNat]
  exact Nat.and_two_pow_sub_one_eq_mod d.toNat 2

theorem legalColor_code (d : Word) : (legalColor d).code = if d &&& 3 = 3 then 0 else d &&& 3 := by
  have table : ∀ b : BitVec 2,
      (if b = 1#2 then NoiseColor.pink else if b = 2#2 then .mauve else .white).code =
        if field b = 3 then 0 else field b := by decide
  rw [and_three_eq_field]
  exact table _

theorem readVoice_writeVoice_same (x : Voice) {v : Fin NV} {r : VReg} {d w : Word}
    (h : storedWord (.voice v r) d = some w) : readVoice (writeVoice x r d) r = w := by
  cases r
  case vstat | vage | venv => contradiction
  case vlevel | vdecay | vvel | vpres | vnstate => exact Option.some.inj h
  case vpan => exact (field_legalU d (by decide) (by decide)).trans (Option.some.inj h)
  case pinc p | phase p => simpa [readVoice, writeVoice] using Option.some.inj h
  case pamp p =>
    simpa [readVoice, writeVoice] using (field_legalU d (by decide) (by decide)).trans (Option.some.inj h)

theorem readValue_writeReg_same (s : State) {r : Reg} {d w : Word} (h : storedWord r d = some w) :
    readValue (writeReg s r d) r = w := by
  cases r with
  | modDepth dst src =>
    have hclamp : legalS d = w := Option.some.inj h
    simp [readValue, writeReg, writeDepth, hclamp]
  | voice v r =>
    rw [readValue, writeReg, State.updVoice_get_same]
    exact readVoice_writeVoice_same _ h
  | glob g =>
    cases g
    case id | cmd | status | frameCount | vactive | activeCount | outL | outR | peakL | peakR | energyLLo | energyLHi |
        energyRLo | energyRHi | energyCount => contradiction
    case vthresh | lfoInc | lfoPhase => exact Option.some.inj h
    case ctrl => exact (field_bit_zero d).trans (Option.some.inj h)
    case envMode => exact (legalCurve_code d).trans (Option.some.inj h)
    case vcaMode => exact (legalResponse_code d).trans (Option.some.inj h)
    case noiseSel => exact (legalColor_code d).trans (Option.some.inj h)
    all_goals
      simp (disch := decide) only [readValue, readGlobal, writeReg, State.setParams_params, writeParam, field_legalU]
      exact Option.some.inj h

/-! Every other register -/

/-- An update that keeps `g` of its voice keeps `g` of every voice. -/
theorem updVoice_get_congr {α : Type} {g : Voice → α} {f : Voice → Voice} (h : ∀ x, g (f x) = g x) (s : State)
    (v w : Fin NV) : g (s.updVoice v f).voices[w] = g s.voices[w] := by
  by_cases hv : v = w
  · rw [← hv, State.updVoice_get_same, h]
  · rw [State.updVoice_get_other _ _ _ _ hv]

/-- A parameter write changes the one field that its register reads: every register against every other. -/
theorem readGlobal_writeParam_other (s : State) {q g : GReg} (d : Word) (h : q ≠ g) :
    readGlobal (s.setParams (writeParam s.params g d)) q = readGlobal s q := by
  cases g <;> cases q <;> try rfl
  all_goals exact absurd rfl h

theorem writeParam_modDepth (p : Params) (g : GReg) (d : Word) : (writeParam p g d).modDepth = p.modDepth := by
  cases g <;> rfl

theorem depthIndex_injective {d d' : Fin 3} {k k' : Fin 4} (h : depthIndex d k = depthIndex d' k') :
    d = d' ∧ k = k' := by
  have : 4 * d.val + k.val = 4 * d'.val + k'.val := congrArg Fin.val h
  omega

theorem readValue_writeDepth_other (s : State) {q : Reg} {dst : Fin 3} {src : Fin 4} (d : Word)
    (h : q ≠ .modDepth dst src) : readValue (s.setParams (writeDepth s.params dst src d)) q = readValue s q := by
  cases q with
  | glob g => cases g <;> rfl
  | voice v r => rfl
  | modDepth dst' src' =>
    have hne : (depthIndex dst src).val ≠ (depthIndex dst' src').val := fun heq => by
      obtain ⟨rfl, rfl⟩ := depthIndex_injective (Fin.ext heq)
      exact h rfl
    simp [readValue, writeDepth, Vector.getElem_set_ne, hne]

theorem readVoice_writeVoice_other (x : Voice) {q r : VReg} (d : Word) (h : q ≠ r) :
    readVoice (writeVoice x r d) q = readVoice x q := by
  cases r <;> cases q <;> try rfl
  case pinc.pinc p p' | pamp.pamp p p' | phase.phase p p' =>
    have hne : p.val ≠ p'.val := fun e => h (by rw [Fin.ext e])
    simp [readVoice, writeVoice, hne]
  all_goals exact absurd rfl h

/-- VACTIVE and ACTIVE_COUNT read nothing of the voices but their ACTIVE flags. -/
theorem State.vactive_activeCount_congr {s t : State} (h : ∀ v : Fin NV, (t.voices[v]).active = (s.voices[v]).active) :
    t.vactive = s.vactive ∧ t.activeCount = s.activeCount := by
  constructor
  · apply BitVec.eq_of_toNat_eq
    rw [t.vactive_toNat.1, s.vactive_toNat.1]
    apply Nat.eq_of_testBit_eq
    intro i
    rw [activeBits_testBit, activeBits_testBit]
    by_cases hi : i < NV
    · simpa [hi] using h ⟨i, hi⟩
    · simp [hi]
  · apply BitVec.eq_of_toNat_eq
    simp only [State.activeCount_toNat, h]

theorem readValue_writeVoice_other (s : State) {q : Reg} {v : Fin NV} {r : VReg} (d : Word) (h : q ≠ .voice v r) :
    readValue (s.updVoice v fun x => writeVoice x r d) q = readValue s q := by
  cases q with
  | modDepth dst src => rfl
  | voice v' r' =>
    by_cases hv : v = v'
    · subst hv
      have hr : r' ≠ r := fun e => h (by rw [e])
      rw [readValue, readValue, State.updVoice_get_same, readVoice_writeVoice_other _ _ hr]
    · rw [readValue, readValue, State.updVoice_get_other _ _ _ _ hv]
  | glob g =>
    obtain ⟨hbits, hcount⟩ :=
      State.vactive_activeCount_congr (updVoice_get_congr (fun x => writeVoice_active x r d) s v)
    cases g
    case vactive => exact hbits
    case activeCount => exact hcount
    all_goals rfl

theorem readValue_setLfoPhase_other (s : State) {q : Reg} (d : Word) (h : q ≠ .glob .lfoPhase) :
    readValue (s.setLfoPhase d) q = readValue s q := by
  cases q with
  | modDepth dst src => rfl
  | voice v r => rfl
  | glob g =>
    cases g
    case lfoPhase => exact absurd rfl h
    all_goals rfl

theorem readValue_writeParam_other (s : State) {q : Reg} {g : GReg} (d : Word) (h : q ≠ .glob g) :
    readValue (s.setParams (writeParam s.params g d)) q = readValue s q := by
  cases q with
  | modDepth dst src => simp only [readValue, State.setParams_params, writeParam_modDepth]
  | voice v r => rfl
  | glob q => exact readGlobal_writeParam_other s d fun e => h (by rw [e])

/-- A register that stores is written by the bus, and it is neither CMD nor STATUS. -/
theorem stores_of_storedWord {r : Reg} {d w : Word} (h : storedWord r d = some w) :
    r.readOnly = false ∧ r ≠ .glob .cmd ∧ r ≠ .glob .status := by
  refine ⟨?_, ?_, ?_⟩
  · cases r with
    | modDepth dst src => rfl
    | voice v r =>
      cases r <;> try rfl
      all_goals contradiction
    | glob g =>
      cases g <;> try rfl
      all_goals contradiction
  · rintro rfl
    contradiction
  · rintro rfl
    contradiction

theorem readValue_writeReg_other (s : State) {q r : Reg} {d w : Word} (hs : storedWord r d = some w) (h : q ≠ r) :
    readValue (writeReg s r d) q = readValue s q := by
  obtain ⟨_, hcmd, hstatus⟩ := stores_of_storedWord hs
  obtain ⟨hr, _⟩ | ⟨hr, _⟩ | ⟨rfl, e⟩ | ⟨g, rfl, e⟩ | ⟨dst, src, rfl, e⟩ | ⟨v, x, rfl, e⟩ := writeReg_cases s r d
  · exact absurd hr hcmd
  · exact absurd hr hstatus
  · rw [e, readValue_setLfoPhase_other s d h]
  · rw [e, readValue_writeParam_other s d h]
  · rw [e, readValue_writeDepth_other s d h]
  · rw [e, readValue_writeVoice_other s d h]

/-! What is no register -/

theorem writeVoice_path (x : Voice) (r : VReg) (d : Word) : (writeVoice x r d).path = x.path := by
  cases r <;> rfl

theorem writeReg_telem_voices (s : State) {r : Reg} {d w : Word} (hs : storedWord r d = some w) :
    (writeReg s r d).telem = s.telem ∧
      ∀ v : Fin NV, ((writeReg s r d).voices[v]).path = (s.voices[v]).path ∧
        ((writeReg s r d).voices[v]).adsr = (s.voices[v]).adsr := by
  obtain ⟨_, hcmd, hstatus⟩ := stores_of_storedWord hs
  obtain ⟨hr, _⟩ | ⟨hr, _⟩ | ⟨_, e⟩ | ⟨_, _, e⟩ | ⟨_, _, _, e⟩ | ⟨v, q, _, e⟩ := writeReg_cases s r d
  · exact absurd hr hcmd
  · exact absurd hr hstatus
  · exact e ▸ ⟨rfl, fun _ => ⟨rfl, rfl⟩⟩
  · exact e ▸ ⟨rfl, fun _ => ⟨rfl, rfl⟩⟩
  · exact e ▸ ⟨rfl, fun _ => ⟨rfl, rfl⟩⟩
  · exact e ▸ ⟨rfl, fun w => ⟨updVoice_get_congr (fun x => writeVoice_path x q d) s v w,
      updVoice_get_congr (fun x => writeVoice_adsr x q d) s v w⟩⟩

/-! Writing twice -/

theorem clearStatus_clearStatus (s : State) (d : Word) : (s.clearStatus d).clearStatus d = s.clearStatus d := by
  simp [State.clearStatus]

theorem writeVoice_writeVoice (x : Voice) (r : VReg) (d : Word) :
    writeVoice (writeVoice x r d) r d = writeVoice x r d := by
  cases r <;> simp [writeVoice]

theorem updVoice_updVoice (s : State) (v : Fin NV) {f : Voice → Voice} (h : ∀ x, f (f x) = f x) :
    (s.updVoice v f).updVoice v f = s.updVoice v f := by
  simp [State.updVoice, h]

theorem writeReg_writeReg (s : State) {r : Reg} (d : Word) (h : r ≠ .glob .cmd) :
    writeReg (writeReg s r d) r d = writeReg s r d := by
  cases r with
  | modDepth dst src => simp [writeReg, State.setParams, writeDepth]
  | voice v r => exact updVoice_updVoice s v fun x => writeVoice_writeVoice x r d
  | glob g =>
    cases g
    case cmd => exact absurd rfl h
    case status => exact clearStatus_clearStatus s d
    all_goals rfl

theorem writeState_writeState (s : State) {a : Addr} (d : Word) (h : a ≠ 0x0004) :
    writeState a d (writeState a d s) = writeState a d s := by
  cases hr : accessReg a with
  | none =>
    simp only [writeState, hr]
    rfl
  | some r =>
    have hcmd : r ≠ .glob .cmd := by
      rintro rfl
      exact h (BitVec.eq_of_toNat_eq ((accessReg_eq_some_iff_addr a _).mp hr))
    simp only [writeState, hr]
    split
    · rfl
    · exact writeReg_writeReg s d hcmd

end Sys2Proof.Machine

namespace Sys2Proof.Proofs

open Sys2Proof.Config Sys2Proof.Machine Sys2Proof.Claims

/-- Settles O20: the written register reads the clamped word, and every update leaves what the other registers read. -/
theorem writeStoresLegalValueOnly : Obligations.WriteStoresLegalValueOnly := by
  intro r d w s h
  obtain ⟨hwritable, _⟩ := stores_of_storedWord h
  obtain ⟨htelem, hvoices⟩ := writeReg_telem_voices s h
  obtain ⟨hstream, hreads, hframes⟩ : (writeReg s r d).stream = s.stream ∧ (writeReg s r d).reads = s.reads ∧
      (writeReg s r d).frames = s.frames := by
    simpa [State.traffic] using writeReg_traffic s r d
  exact ⟨_, exec_wr_busAddr hwritable d s, readValue_writeReg_same s h, fun q => readValue_writeReg_other s h, htelem,
    hstream, hreads, hframes, hvoices⟩

/-- Settles O21: a write to STATUS is `clearStatus`. -/
theorem statusWriteClearsOnes : Obligations.StatusWriteClearsOnes := fun d s =>
  exec_wr_busAddr (r := .glob .status) rfl d s

/-- Settles O22: every write but a command stores the same value again. -/
theorem repeatedWriteHasOneEffect : Obligations.RepeatedWriteHasOneEffect := by
  intro a d s t ha h
  obtain rfl : writeState a d s = t := by simpa using h
  rw [exec_wr, writeState_writeState s d ha]

end Sys2Proof.Proofs
end

section
/-! SUPPORT. The rejected accesses. A misaligned address and an address in a hole of the map reach no register, and an
access that reaches none only flags BUSERR, as a WR to an RO register does. Settles O13, O14 and O15. -/

namespace Sys2Proof.Machine

open Sys2Proof.Claims

/-! An access that reaches no register -/

theorem exec_rd_of_accessReg_none {a : Addr} (h : accessReg a = none) (s : State) :
    exec (.rd a) s = .next (s.flagBusErr.returnWord 0) := by
  simp [readState, readData, h]

theorem exec_wr_of_accessReg_none {a : Addr} (h : accessReg a = none) (d : Word) (s : State) :
    exec (.wr a d) s = .next s.flagBusErr := by
  simp [writeState, h]

theorem accessReg_of_misaligned {a : Addr} (h : a.extractLsb' 0 2 ≠ 0) : accessReg a = none :=
  if_pos (bne_iff_ne.mpr h)

/-! No register lies in a hole of the map (R101) -/

theorem GReg.addr_mapped (g : GReg) : g.addr < 0xA0 ∧ g.addr ≠ 0x6C := by cases g <;> decide

theorem VReg.offset_mapped (r : VReg) : r.offset < 0x24 ∨ 0x100 ≤ r.offset := by
  cases r
  case pinc p | pamp p | phase p =>
    simp only [VReg.offset]
    omega
  all_goals decide

theorem Reg.not_unmapped {a : Addr} {r : Reg} (h : a.toNat = r.addr) : ¬Unmapped a := by
  unfold Unmapped
  cases r with
  | glob g =>
    have := g.addr_mapped
    simp only [Reg.addr] at h
    omega
  | modDepth d k =>
    simp only [Reg.addr] at h
    omega
  | voice v r =>
    have hv : v.val < 16 := v.isLt
    have hlt := r.offset_lt
    have hhole := r.offset_mapped
    simp only [Reg.addr, voiceBase] at h
    omega

theorem accessReg_of_unmapped {a : Addr} (h : Unmapped a) : accessReg a = none :=
  Option.eq_none_iff_forall_ne_some.mpr fun r hr => Reg.not_unmapped ((accessReg_eq_some_iff_addr a r).mp hr) h

/-! RO registers (R106) -/

theorem readOnly_of_readOnlyReg {r : Reg} (h : ReadOnlyReg r) : r.readOnly = true := by
  obtain rfl | rfl | rfl | rfl | rfl | rfl | rfl | rfl | rfl | rfl | rfl | rfl | rfl | ⟨v, rfl | rfl | rfl⟩ := h <;> rfl

theorem exec_wr_busAddr_of_readOnly {r : Reg} (h : r.readOnly = true) (d : Word) (s : State) :
    exec (.wr (busAddr r) d) s = .next s.flagBusErr := by
  simp [writeState, h]

end Sys2Proof.Machine

namespace Sys2Proof.Proofs

open Sys2Proof.Machine Sys2Proof.Claims

/-- Settles O13: a misaligned access reaches no register. -/
theorem misalignedAccessRejected : Obligations.MisalignedAccessRejected := by
  intro a d s h
  have hnone := accessReg_of_misaligned h
  exact ⟨exec_rd_of_accessReg_none hnone s, exec_wr_of_accessReg_none hnone d s⟩

/-- Settles O14: no register has its address in a hole, so an access there reaches none. -/
theorem unmappedAccessRejected : Obligations.UnmappedAccessRejected := by
  intro a d s _ h
  have hnone := accessReg_of_unmapped h
  exact ⟨exec_rd_of_accessReg_none hnone s, exec_wr_of_accessReg_none hnone d s⟩

/-- Settles O15: the model's RO flag covers the list of R106, and CMD is readable, with no read effect. -/
theorem readOnlyWriteRejected : Obligations.ReadOnlyWriteRejected :=
  ⟨fun _ d s h => exec_wr_busAddr_of_readOnly (readOnly_of_readOnlyReg h) d s,
    fun s => exec_rd_busAddr (.glob .cmd) s⟩

end Sys2Proof.Proofs
end

section
/-! SUPPORT. The fields of an operation word and of a command word (R130, R135): a word is packed from its fields, and a
masked word fixes the fields under its mask. -/

namespace Sys2Proof

/-! Operation words (R130) -/

@[simp] theorem How.addr_pack (k : BitVec 2) (a : Addr) (d : Word) : (How.pack k a d).addr = a :=
  (BitVec.extractLsb'_append_eq_of_le (by decide)).trans BitVec.extractLsb'_append_eq_right

@[simp] theorem How.data_pack (k : BitVec 2) (a : Addr) (d : Word) : (How.pack k a d).data = d :=
  BitVec.extractLsb'_append_eq_right

@[simp] theorem How.pack_fields (w : How) : How.pack w.kind w.addr w.data = w := by
  have hhigh : w.kind ++ w.addr = w.extractLsb' 32 18 := BitVec.extractLsb'_append_extractLsb'_eq_extractLsb' rfl
  calc How.pack w.kind w.addr w.data = w.extractLsb' 32 18 ++ w.extractLsb' 0 32 := by rw [How.pack, hhigh]; rfl
    _ = w.extractLsb' 0 50 := BitVec.extractLsb'_append_extractLsb'_eq_extractLsb' rfl
    _ = w := BitVec.extractLsb'_eq_self

theorem How.pack_inj {k k' : BitVec 2} {a a' : Addr} {d d' : Word} :
    How.pack k a d = How.pack k' a' d' ↔ k = k' ∧ a = a' ∧ d = d' := by
  refine ⟨fun h => ⟨?_, ?_, ?_⟩, ?_⟩
  · simpa [Laws.How.kind_pack] using congrArg How.kind h
  · simpa using congrArg How.addr h
  · simpa using congrArg How.data h
  · rintro ⟨rfl, rfl, rfl⟩
    rfl

theorem How.and_pack (w : How) (k : BitVec 2) (a : Addr) (d : Word) :
    w &&& How.pack k a d = How.pack (w.kind &&& k) (w.addr &&& a) (w.data &&& d) := by
  calc w &&& How.pack k a d = How.pack w.kind w.addr w.data &&& How.pack k a d := by rw [How.pack_fields]
    _ = _ := BitVec.and_append.trans (congrArg (· ++ (w.data &&& d)) BitVec.and_append)

/-! Command words (R135) -/

@[simp] theorem cmdOp_append (r : BitVec 16) (v op : BitVec 8) : cmdOp (r ++ v ++ op) = op :=
  BitVec.extractLsb'_append_eq_right

@[simp] theorem cmdVoice_append (r : BitVec 16) (v op : BitVec 8) : cmdVoice (r ++ v ++ op) = v :=
  (BitVec.extractLsb'_append_eq_of_le (by decide)).trans BitVec.extractLsb'_append_eq_right

@[simp] theorem cmdRsvd_append (r : BitVec 16) (v op : BitVec 8) : cmdRsvd (r ++ v ++ op) = r :=
  (BitVec.extractLsb'_append_eq_of_le (by decide)).trans BitVec.extractLsb'_append_eq_left

@[simp] theorem cmdOp_packCommand (v op : BitVec 8) : cmdOp (packCommand v op) = op := cmdOp_append 0#16 v op

@[simp] theorem cmdVoice_packCommand (v op : BitVec 8) : cmdVoice (packCommand v op) = v := cmdVoice_append 0#16 v op

@[simp] theorem cmdRsvd_packCommand (v op : BitVec 8) : cmdRsvd (packCommand v op) = 0#16 := cmdRsvd_append 0#16 v op

theorem append_cmd_fields (d : Word) : cmdRsvd d ++ cmdVoice d ++ cmdOp d = d := by
  have hhigh : cmdRsvd d ++ cmdVoice d = d.extractLsb' 8 24 := BitVec.extractLsb'_append_extractLsb'_eq_extractLsb' rfl
  calc cmdRsvd d ++ cmdVoice d ++ cmdOp d = d.extractLsb' 8 24 ++ d.extractLsb' 0 8 := by rw [hhigh]; rfl
    _ = d.extractLsb' 0 32 := BitVec.extractLsb'_append_extractLsb'_eq_extractLsb' rfl
    _ = d := BitVec.extractLsb'_eq_self

theorem packCommand_fields {d : Word} (h : cmdRsvd d = 0#16) : packCommand (cmdVoice d) (cmdOp d) = d :=
  calc packCommand (cmdVoice d) (cmdOp d) = cmdRsvd d ++ cmdVoice d ++ cmdOp d := by rw [h]; rfl
    _ = d := append_cmd_fields d

theorem cmdVoice_data (w : How) : cmdVoice w.data = w.extractLsb' 8 8 := by
  calc cmdVoice w.data = (How.pack w.kind w.addr w.data).extractLsb' 8 8 :=
        (BitVec.extractLsb'_append_eq_of_add_le (by decide)).symm
    _ = w.extractLsb' 8 8 := by rw [How.pack_fields]

/-! The masks of the opcode table (R143) -/

theorem How.and_kindMask_eq_iff (w : How) (k : BitVec 2) :
    w &&& 0x3000000000000 = How.pack k 0#16 0#32 ↔ w.kind = k := by
  have hmask : (0x3000000000000 : How) = How.pack (BitVec.allOnes 2) 0#16 0#32 := by decide
  rw [hmask, How.and_pack, How.pack_inj, BitVec.and_allOnes]
  simp

theorem data_and_commandMask_eq_iff (d : Word) (op : BitVec 8) :
    d &&& 0xffff00ff = packCommand 0#8 op ↔ cmdRsvd d = 0#16 ∧ cmdOp d = op := by
  have hmask : (0xffff00ff : Word) = BitVec.allOnes 16 ++ 0#8 ++ BitVec.allOnes 8 := by decide
  have hand : d &&& 0xffff00ff = cmdRsvd d ++ 0#8 ++ cmdOp d := by
    calc d &&& 0xffff00ff
      _ = (cmdRsvd d ++ cmdVoice d ++ cmdOp d) &&& (BitVec.allOnes 16 ++ 0#8 ++ BitVec.allOnes 8) := by
          rw [append_cmd_fields, hmask]
      _ = (cmdRsvd d &&& BitVec.allOnes 16) ++ (cmdVoice d &&& 0#8) ++ (cmdOp d &&& BitVec.allOnes 8) := by
          rw [BitVec.and_append, BitVec.and_append]
      _ = cmdRsvd d ++ 0#8 ++ cmdOp d := by simp only [BitVec.and_allOnes, BitVec.and_zero]
  rw [hand]
  constructor
  · intro h
    exact ⟨by simpa using congrArg cmdRsvd h, by simpa using congrArg cmdOp h⟩
  · rintro ⟨hrsvd, rfl⟩
    rw [hrsvd]
    rfl

theorem How.and_commandMask_eq_iff (w : How) (op : BitVec 8) :
    w &&& 0x3ffffffff00ff = How.pack 0b01#2 cmdAddr (packCommand 0#8 op) ↔
      w.kind = 0b01#2 ∧ w.addr = cmdAddr ∧ cmdRsvd w.data = 0#16 ∧ cmdOp w.data = op := by
  have hmask : (0x3ffffffff00ff : How) = How.pack (BitVec.allOnes 2) (BitVec.allOnes 16) 0xffff00ff := by decide
  rw [hmask, How.and_pack, How.pack_inj, BitVec.and_allOnes, BitVec.and_allOnes, data_and_commandMask_eq_iff]

end Sys2Proof
end

section
/-! SUPPORT. The command rows of the opcode table, and the decoder by rows: a WR is the command of its row, or stays a
WR. Settles O1 to O4. -/

namespace Sys2Proof

/-- The command rows of the opcode table: OP, and the instruction for each VOICE field (R136). -/
inductive CommandRow : BitVec 8 → (BitVec 8 → Instr) → Prop
  | nop : CommandRow 0x00 fun _ => .nop
  | prepare : CommandRow 0x01 fun _ => .prepare
  | telemClear : CommandRow 0x02 fun _ => .telemClear
  | voiceStart : CommandRow 0x10 .voiceStart
  | voiceRelease : CommandRow 0x11 .voiceRelease
  | voiceRetrigger : CommandRow 0x12 .voiceRetrigger
  | voiceStop : CommandRow 0x13 .voiceStop

theorem isCommandWord_eq_false_iff (d : Word) :
    isCommandWord d = false ↔ cmdRsvd d ≠ 0#16 ∨ cmdOp d ∉ commandOps := by
  simp [isCommandWord, cmdRsvd, cmdOp, imp_iff_not_or]

theorem mem_commandOps_iff (op : BitVec 8) : op ∈ commandOps ↔ ∃ mk, CommandRow op mk := by
  constructor
  · intro h
    simp only [commandOps, List.mem_cons, List.not_mem_nil, or_false] at h
    obtain rfl | rfl | rfl | rfl | rfl | rfl | rfl := h
    exacts [⟨_, .nop⟩, ⟨_, .prepare⟩, ⟨_, .telemClear⟩, ⟨_, .voiceStart⟩, ⟨_, .voiceRelease⟩, ⟨_, .voiceRetrigger⟩,
      ⟨_, .voiceStop⟩]
  · rintro ⟨_, hrow⟩
    cases hrow <;> decide

theorem isCommandWord_iff (d : Word) : isCommandWord d = true ↔ cmdRsvd d = 0#16 ∧ ∃ mk, CommandRow (cmdOp d) mk := by
  rw [← mem_commandOps_iff, ← not_iff_not, Bool.not_eq_true, isCommandWord_eq_false_iff, not_and_or]

theorem wr_wf_iff (a : Addr) (d : Word) : (Instr.wr a d).wf = true ↔ (a = cmdAddr → isCommandWord d = false) := by
  simp [Instr.wf, imp_iff_not_or]

theorem CommandRow.wf {op : BitVec 8} {mk : BitVec 8 → Instr} (hrow : CommandRow op mk) (v : BitVec 8) :
    (mk v).wf = true := by
  cases hrow <;> rfl

/-- A global command is encoded with VOICE = 0, a voice command with its own (R138). -/
theorem CommandRow.encode_eq {op : BitVec 8} {mk : BitVec 8 → Instr} (hrow : CommandRow op mk) {v : BitVec 8}
    (hv : v = 0#8 ∨ 0x03 ≤ op.toNat) : encode (mk v) = How.pack 0b01#2 cmdAddr (packCommand v op) := by
  cases hrow
  case nop | prepare | telemClear =>
    obtain rfl | h := hv
    · rfl
    · contradiction
  all_goals rfl

/-! The decoder -/

theorem decodeCommand_of_row {d : Word} {mk : BitVec 8 → Instr} (hrsvd : cmdRsvd d = 0#16)
    (hrow : CommandRow (cmdOp d) mk) : decodeCommand d = some (mk (cmdVoice d)) := by
  rw [decodeCommand, if_neg (not_not.mpr hrsvd)]
  generalize cmdOp d = op at hrow ⊢
  cases hrow <;> rfl

theorem decodeCommand_of_not_commandWord {d : Word} (h : isCommandWord d = false) : decodeCommand d = none := by
  obtain hrsvd | hop := (isCommandWord_eq_false_iff d).mp h
  · exact if_pos hrsvd
  · simp only [commandOps, List.mem_cons, List.not_mem_nil, or_false, not_or] at hop
    simp [decodeCommand, hop]

theorem decodeWrite_of_row {d : Word} {mk : BitVec 8 → Instr} (hrsvd : cmdRsvd d = 0#16)
    (hrow : CommandRow (cmdOp d) mk) : decodeWrite cmdAddr d = mk (cmdVoice d) := by
  rw [decodeWrite, if_pos rfl, decodeCommand_of_row hrsvd hrow, Option.getD_some]

theorem decodeWrite_of_wf {a : Addr} {d : Word} (h : (Instr.wr a d).wf = true) : decodeWrite a d = .wr a d := by
  unfold decodeWrite
  split
  · next ha => rw [decodeCommand_of_not_commandWord ((wr_wf_iff a d).mp h ha), Option.getD_none]
  · rfl

/-- A WR to CMD that matches a command row is the row's command, and any other WR is itself (R143). -/
theorem decodeWrite_cases (a : Addr) (d : Word) :
    ((Instr.wr a d).wf = true ∧ decodeWrite a d = .wr a d) ∨
      (a = cmdAddr ∧ cmdRsvd d = 0#16 ∧ ∃ mk, CommandRow (cmdOp d) mk ∧ decodeWrite a d = mk (cmdVoice d)) := by
  by_cases h : (Instr.wr a d).wf = true
  · exact .inl ⟨h, decodeWrite_of_wf h⟩
  · obtain ⟨rfl, hword⟩ : a = cmdAddr ∧ isCommandWord d = true := by simpa [wr_wf_iff] using h
    obtain ⟨hrsvd, mk, hrow⟩ := (isCommandWord_iff d).mp hword
    exact .inr ⟨rfl, hrsvd, mk, hrow, decodeWrite_of_row hrsvd hrow⟩

theorem decode_of_kind_rd {w : How} (h : w.kind = 0b00#2) : decode w = .ok (.rd w.addr) := if_pos h

theorem decode_of_kind_wr {w : How} (h : w.kind = 0b01#2) : decode w = .ok (decodeWrite w.addr w.data) := by
  simp [decode, h]

theorem decode_of_kind_tick {w : How} (h : w.kind = 0b10#2) : decode w = .ok .tick := by
  simp [decode, h]

theorem decode_of_kind_reserved {w : How} (h : w.kind = 0b11#2) : decode w = .error .reservedKind := by
  simp [decode, h]

/-- The three defined KINDs, by what they decode to (R131). -/
theorem decode_cases {w : How} {i : Instr} (h : decode w = .ok i) :
    (w.kind = 0b00#2 ∧ i = .rd w.addr) ∨ (w.kind = 0b01#2 ∧ i = decodeWrite w.addr w.data) ∨
      (w.kind = 0b10#2 ∧ i = .tick) := by
  unfold decode at h
  split at h
  · next hk => exact .inl ⟨hk, (Except.ok.inj h).symm⟩
  split at h
  · next hk => exact .inr (.inl ⟨hk, (Except.ok.inj h).symm⟩)
  split at h
  · next hk => exact .inr (.inr ⟨hk, (Except.ok.inj h).symm⟩)
  · contradiction

theorem decode_pack_wr (a : Addr) (d : Word) : decode (How.pack 0b01#2 a d) = .ok (decodeWrite a d) := by
  simpa using decode_of_kind_wr (Laws.How.kind_pack 0b01#2 a d)

theorem decode_commandWord {op : BitVec 8} {mk : BitVec 8 → Instr} (hrow : CommandRow op mk) (v : BitVec 8) :
    decode (How.pack 0b01#2 cmdAddr (packCommand v op)) = .ok (mk v) := by
  rw [decode_pack_wr, decodeWrite_of_row (mk := mk) (cmdRsvd_packCommand v op) (by simpa using hrow),
    cmdVoice_packCommand]

theorem decode_encode {i : Instr} (h : i.wf = true) : decode (encode i) = .ok i := by
  cases i with
  | rd a => exact (decode_of_kind_rd (Laws.EncodeKind.rd a)).trans (by rw [encode, How.addr_pack])
  | wr a d => rw [encode, decode_pack_wr, decodeWrite_of_wf h]
  | tick => exact decode_of_kind_tick Laws.EncodeKind.tick
  | nop => exact decode_commandWord .nop 0
  | prepare => exact decode_commandWord .prepare 0
  | telemClear => exact decode_commandWord .telemClear 0
  | voiceStart v => exact decode_commandWord .voiceStart v
  | voiceRelease v => exact decode_commandWord .voiceRelease v
  | voiceRetrigger v => exact decode_commandWord .voiceRetrigger v
  | voiceStop v => exact decode_commandWord .voiceStop v

theorem wf_of_decode {w : How} {i : Instr} (h : decode w = .ok i) : i.wf = true := by
  obtain ⟨_, rfl⟩ | ⟨_, rfl⟩ | ⟨_, rfl⟩ := decode_cases h
  · rfl
  · obtain ⟨hwf, hw⟩ | ⟨_, _, mk, hrow, hw⟩ := decodeWrite_cases w.addr w.data <;> rw [hw]
    · exact hwf
    · exact hrow.wf _
  · rfl

theorem encode_decodeWrite {w : How} (hk : w.kind = 0b01#2)
    (hglobal : w.addr = cmdAddr → cmdVoice w.data = 0#8 ∨ cmdRsvd w.data ≠ 0#16 ∨ 0x03 ≤ (cmdOp w.data).toNat) :
    encode (decodeWrite w.addr w.data) = w := by
  obtain ⟨_, hw⟩ | ⟨ha, hrsvd, mk, hrow, hw⟩ := decodeWrite_cases w.addr w.data <;> rw [hw]
  · rw [encode, ← hk, How.pack_fields]
  · have hv : cmdVoice w.data = 0#8 ∨ 0x03 ≤ (cmdOp w.data).toNat :=
      (hglobal ha).imp_right fun h => h.resolve_left (not_not.mpr hrsvd)
    rw [hrow.encode_eq hv, packCommand_fields hrsvd, ← ha, ← hk, How.pack_fields]

/-! The masks of the opcode table -/

theorem decode_of_commandMask {w : How} {op : BitVec 8} {mk : BitVec 8 → Instr} (hrow : CommandRow op mk)
    (h : w &&& 0x3ffffffff00ff = How.pack 0b01#2 cmdAddr (packCommand 0#8 op)) :
    decode w = .ok (mk (w.extractLsb' 8 8)) := by
  obtain ⟨hk, ha, hrsvd, rfl⟩ := (How.and_commandMask_eq_iff w op).mp h
  rw [decode_of_kind_wr hk, ha, decodeWrite_of_row hrsvd hrow, cmdVoice_data]

/-- The match number of a command row is its OP above the match number of NOP. -/
theorem CommandRow.match_mem {op : BitVec 8} {mk : BitVec 8 → Instr} (hrow : CommandRow op mk) :
    ∃ o ∈ [0x00, 0x01, 0x02, 0x10, 0x11, 0x12, 0x13],
      How.pack 0b01#2 cmdAddr (packCommand 0#8 op) = 0x1000400000000#50 + o := by
  cases hrow
  exacts [⟨0x00, by decide⟩, ⟨0x01, by decide⟩, ⟨0x02, by decide⟩, ⟨0x10, by decide⟩, ⟨0x11, by decide⟩,
    ⟨0x12, by decide⟩, ⟨0x13, by decide⟩]

end Sys2Proof

namespace Sys2Proof.Proofs

/-- Settles O2, by cases over the instructions: the decoder reads the packed fields back. -/
theorem decodeEncodeRoundTrip : Obligations.DecodeEncodeRoundTrip := fun _ => decode_encode

/-- Settles O3: the decoder answers a row's command or a well-formed WR, and either has the word's fields. -/
theorem decodedInstructionReencodes : Obligations.DecodedInstructionReencodes := by
  intro w i h
  refine ⟨wf_of_decode h, fun hk hglobal => ?_⟩
  rw [decode_of_kind_wr hk] at h
  obtain rfl := Except.ok.inj h
  exact encode_decodeWrite hk hglobal

/-- Settles O4: each mask fixes KIND, and a command row's mask the whole word but VOICE. -/
theorem decodeFollowsTheTable : Obligations.DecodeFollowsTheTable := by
  intro w
  refine ⟨fun h => decode_of_kind_rd ((How.and_kindMask_eq_iff w 0).mp h),
    fun h => decode_of_kind_tick ((How.and_kindMask_eq_iff w 2).mp h),
    decode_of_commandMask .nop, decode_of_commandMask .prepare, decode_of_commandMask .telemClear,
    decode_of_commandMask .voiceStart, decode_of_commandMask .voiceRelease, decode_of_commandMask .voiceRetrigger,
    decode_of_commandMask .voiceStop, fun h hnot => ?_⟩
  have hk : w.kind = 0b01#2 := (How.and_kindMask_eq_iff w 1).mp h
  rw [decode_of_kind_wr hk]
  obtain ⟨_, hw⟩ | ⟨ha, hrsvd, mk, hrow, _⟩ := decodeWrite_cases w.addr w.data
  · rw [hw]
    rfl
  · obtain ⟨o, ho, hmatch⟩ := hrow.match_mem
    exact absurd (((How.and_commandMask_eq_iff w _).mpr ⟨hk, ha, hrsvd, rfl⟩).trans hmatch) (hnot o ho)

/-- Settles O1: the four instructions are well formed and encode to the words of R142, so these decode to them. -/
theorem workedEncodings : Obligations.WorkedEncodings :=
  ⟨⟨by decide, decode_encode (i := .wr 0x0008 1) (by decide)⟩, ⟨by decide, decode_encode (i := .voiceStart 3) rfl⟩,
    ⟨by decide, decode_encode (i := .rd 0x0074) rfl⟩, ⟨by decide, decode_encode (i := .tick) rfl⟩⟩

end Sys2Proof.Proofs
end

section
/-! SUPPORT. A WR to CMD runs the command of its row, and any other word written there is rejected with CMDERR. Settles
O5, O23 and O24. -/

namespace Sys2Proof.Machine

open Sys2Proof.Config Sys2Proof.Claims

theorem exec_wr_cmd (d : Word) (s : State) : exec (.wr cmdAddr d) s = .next (s.command d) :=
  exec_wr_busAddr (r := .glob .cmd) rfl d s

theorem exec_of_row {d : Word} {mk : BitVec 8 → Instr} (hrsvd : cmdRsvd d = 0#16) (hrow : CommandRow (cmdOp d) mk)
    (s : State) : exec (mk (cmdVoice d)) s = .next (s.command d) := by
  rw [State.command, if_neg (not_not.mpr hrsvd)]
  generalize cmdOp d = op at hrow ⊢
  cases hrow <;> rfl

theorem command_of_not_commandWord {d : Word} (h : isCommandWord d = false) (s : State) :
    s.command d = s.flagCmdErr := by
  obtain hrsvd | hop := (isCommandWord_eq_false_iff d).mp h
  · exact if_pos hrsvd
  · simp only [commandOps, List.mem_cons, List.not_mem_nil, or_false, not_or] at hop
    simp [State.command, hop]

theorem exec_decodeWrite (a : Addr) (d : Word) (s : State) : exec (decodeWrite a d) s = exec (.wr a d) s := by
  obtain ⟨_, hw⟩ | ⟨rfl, hrsvd, mk, hrow, hw⟩ := decodeWrite_cases a d <;> rw [hw]
  rw [exec_of_row hrsvd hrow, exec_wr_cmd]

theorem exec_wr_packCommand {op : BitVec 8} {mk : BitVec 8 → Instr} (hrow : CommandRow op mk) (v : BitVec 8)
    (s : State) : exec (.wr cmdAddr (packCommand v op)) s = exec (mk v) s := by
  rw [exec_wr_cmd, ← exec_of_row (mk := mk) (cmdRsvd_packCommand v op) (by simpa using hrow), cmdVoice_packCommand]

theorem step_of_stream_cons_reserved {s : State} {w : How} {rest : List How} (h : s.stream = w :: rest)
    (hw : decode w = .error .reservedKind) : step s = .refused .reservedKind := by
  simp [step, State.nextWord, h, hw]

/-! Rejected commands (R137) -/

theorem voiceCommand_of_le {v : BitVec 8} (h : NV ≤ v.toNat) (s : State) (f : Voice → Voice) :
    s.voiceCommand v f = s.flagCmdErr := dif_neg h.not_gt

/-- A reserved word that matches a command row does so by its VOICE field alone. -/
theorem voice_of_reserved {d : Word} {mk : BitVec 8 → Instr} (hreserved : ReservedCommand d) (hrsvd : cmdRsvd d = 0#16)
    (hrow : CommandRow (cmdOp d) mk) : 0x10 ≤ (cmdOp d).toNat ∧ NV ≤ (cmdVoice d).toNat := by
  have hclass : (0x03 ≤ (cmdOp d).toNat ∧ (cmdOp d).toNat ≤ 0x0F) ∨ 0x14 ≤ (cmdOp d).toNat ∨
      (0x10 ≤ (cmdOp d).toNat ∧ (cmdOp d).toNat ≤ 0x13 ∧ 16 ≤ (cmdVoice d).toNat) :=
    hreserved.resolve_left (not_not.mpr hrsvd)
  have hop : (cmdOp d).toNat ≤ 0x02 ∨ (0x10 ≤ (cmdOp d).toNat ∧ (cmdOp d).toNat ≤ 0x13) := by
    generalize cmdOp d = op at hrow
    cases hrow <;> decide
  show 16 ≤ _ ∧ 16 ≤ _
  omega

theorem command_of_reserved {d : Word} (h : ReservedCommand d) (s : State) : s.command d = s.flagCmdErr := by
  cases hword : isCommandWord d
  case false => exact command_of_not_commandWord hword s
  obtain ⟨hrsvd, mk, hrow⟩ := (isCommandWord_iff d).mp hword
  obtain ⟨hop, hv⟩ := voice_of_reserved h hrsvd hrow
  have hexec := exec_of_row hrsvd hrow s
  generalize cmdOp d = op at hrow hop
  cases hrow
  case nop | prepare | telemClear => contradiction
  all_goals exact (Host.Outcome.next.inj hexec).symm.trans (voiceCommand_of_le hv s _)

end Sys2Proof.Machine

namespace Sys2Proof.Proofs

open Sys2Proof.Machine

/-- Settles O5: a word of KIND 01 decodes to a WR or to the command that this WR is. -/
theorem kindSelectsOperation : Obligations.KindSelectsOperation := by
  intro w
  refine ⟨fun h => ⟨_, decode_of_kind_rd h⟩, fun h => ⟨_, decode_of_kind_wr h, exec_decodeWrite w.addr w.data⟩,
    decode_of_kind_tick, fun h => ⟨decode_of_kind_reserved h, fun s rest hstream => ?_⟩⟩
  exact step_of_stream_cons_reserved hstream (decode_of_kind_reserved h)

/-- Settles O23: a reserved word matches no command row, or names a voice that does not exist. -/
theorem reservedCommandRejected : Obligations.ReservedCommandRejected :=
  ⟨fun w s h => (exec_wr_cmd w s).trans (congrArg _ (command_of_reserved h s)), fun _ s h =>
    have hrejected f := congrArg Host.Outcome.next (voiceCommand_of_le h s f)
    ⟨hrejected _, hrejected _, hrejected _, hrejected _⟩⟩

/-- Settles O24, row by row. -/
theorem commandWordRunsItsCommand : Obligations.CommandWordRunsItsCommand := fun v s =>
  ⟨exec_wr_packCommand .nop v s, exec_wr_packCommand .prepare v s, exec_wr_packCommand .telemClear v s,
    exec_wr_packCommand .voiceStart v s, exec_wr_packCommand .voiceRelease v s,
    exec_wr_packCommand .voiceRetrigger v s, exec_wr_packCommand .voiceStop v s⟩

end Sys2Proof.Proofs
end

section
/-! SUPPORT. What each command does: the state PREPARE leaves, and a voice command as an update of the one voice it
names. Settles O25 to O31. -/

namespace Sys2Proof.Machine

open Sys2Proof.Config Sys2Proof.Claims

/-! PREPARE (R165) -/

theorem Voice.prepare_reset (v : ℕ) : Voice.prepare v (Voice.reset v) = Voice.reset v := rfl

theorem State.prepare_reset : State.reset.prepare = State.reset := by
  have hreset (v : Fin NV) : State.reset.voices[v] = Voice.reset v.val := voicesReset_getElem v
  have hvoice (v : Fin NV) : State.reset.prepare.voices[v] = State.reset.voices[v] := by
    rw [State.prepare_get, hreset, Voice.prepare_reset]
  exact congrArg State.reset.setVoices (Vector.ext fun i hi => hvoice ⟨i, hi⟩)

/-! Voice commands (R163, R167 to R170) -/

theorem Adsr.trigger_eq (p : Params) (a : Adsr) :
    a.trigger p = ⟨if p.envDelay = 0 then .attack else .delay, a.e, 0, a.e⟩ := by
  have hpos : 0 < p.envDelay.toNat ↔ ¬p.envDelay = 0 := by bv_omega
  simp only [Adsr.trigger, hpos, ite_not]

theorem Voice.start_eq (p : Params) (x : Voice) :
    Voice.start p x =
      { x with
        active := true
        vage := 0
        path := zeroPath
        adsr := ⟨if p.envDelay = 0 then .attack else .delay, 0, 0, 0⟩ } := by
  rw [Voice.start, Adsr.trigger_eq]
  rfl

theorem Voice.retrigger_eq (p : Params) (x : Voice) :
    Voice.retrigger p x =
      if x.active = true then
        { x with adsr := ⟨if p.envDelay = 0 then .attack else .delay, x.adsr.e, 0, x.adsr.e⟩ }
      else x := by
  rw [Voice.retrigger, Adsr.trigger_eq]

theorem voiceCommand_of_lt {v : BitVec 8} (h : v.toNat < NV) (s : State) (f : Voice → Voice) :
    s.voiceCommand v f = s.updVoice ⟨v.toNat, h⟩ f := dif_pos h

/-- An instruction that runs a voice command changes the voice it names to what the command makes of it, and nothing
else. -/
theorem exec_voiceCommand_frame {i : Instr} {v : BitVec 8} {s : State} {f : Voice → Voice}
    (hexec : exec i s = .next (s.voiceCommand v f)) (h : v.toNat < NV) :
    ∃ t, exec i s = .next t ∧
      t = { s with voices := t.voices } ∧
      (∀ w : Fin NV, w.val ≠ v.toNat → t.voices[w] = s.voices[w]) ∧
      t.voices[(⟨v.toNat, h⟩ : Fin NV)] = f s.voices[(⟨v.toNat, h⟩ : Fin NV)] := by
  rw [voiceCommand_of_lt h] at hexec
  refine ⟨_, hexec, rfl, fun w hw => ?_, State.updVoice_get_same s _ f⟩
  exact State.updVoice_get_other s _ w f fun hvw => hw (Fin.val_eq_of_eq hvw).symm

end Sys2Proof.Machine

namespace Sys2Proof.Proofs

open Sys2Proof.Machine

/-- Settles O25: NOP holds the state, and a WR to CMD of OP 0x00 is NOP. -/
theorem nopChangesNothing : Obligations.NopChangesNothing := fun v s => ⟨rfl, exec_wr_packCommand .nop v s⟩

/-- Settles O26: the state at reset is one that PREPARE leaves. -/
theorem prepareClearsProcessingState : Obligations.PrepareClearsProcessingState :=
  ⟨congrArg Host.Outcome.next State.prepare_reset, fun s => ⟨s.prepare, rfl, rfl, s.prepare_get⟩⟩

/-- Settles O27: the cleared telemetry is all zero. -/
theorem telemClearClearsTelemetry : Obligations.TelemClearClearsTelemetry := fun _ => rfl

/-- Settles O28: a triggered envelope whose level is 0 starts from 0. -/
theorem voiceStartStartsVoice : Obligations.VoiceStartStartsVoice := by
  intro v s h
  have hframe := exec_voiceCommand_frame (i := .voiceStart v) (s := s) rfl h
  rwa [Voice.start_eq] at hframe

/-- Settles O29: the release is the one of the envelope generator when the voice is active. -/
theorem voiceReleaseReleasesActiveVoice : Obligations.VoiceReleaseReleasesActiveVoice := fun v _ h =>
  exec_voiceCommand_frame (i := .voiceRelease v) rfl h

/-- Settles O30: a triggered envelope starts from its level. -/
theorem voiceRetriggerRestartsEnvelope : Obligations.VoiceRetriggerRestartsEnvelope := by
  intro v s h
  have hframe := exec_voiceCommand_frame (i := .voiceRetrigger v) (s := s) rfl h
  rwa [Voice.retrigger_eq] at hframe

/-- Settles O31: the stopped voice keeps all but its activity and its envelope. -/
theorem voiceStopStopsVoice : Obligations.VoiceStopStopsVoice := fun v _ h =>
  exec_voiceCommand_frame (i := .voiceStop v) rfl h

end Sys2Proof.Proofs
end

section
/-! SUPPORT. What a tick makes of one voice: it is held, deactivated at the threshold or sounds, and no other voice
plays a part in it. Settles O35 to O38, O40 and O59. -/

namespace Sys2Proof.Machine

open Sys2Proof.Config Sys2Proof.Claims

theorem eq_frame_of_exec_tick {s t : State} (h : exec .tick s = .next t) : t = s.frame :=
  (Host.Outcome.next.inj h).symm

theorem State.frame_get (s : State) (v : Fin NV) :
    s.frame.voices[v] = if s.params.en = true then (contribution s v).voice else s.voices[v] := by
  obtain ⟨hen, hframe⟩ | ⟨hen, hframe⟩ := frame_cases s
  · rw [hframe, if_pos hen]
    exact s.frameEnabled_get v
  · simp [hframe, hen]

theorem decayLevel_eq_loweredLevel (x : Voice) : decayLevel x.vlevel x.vdecay = loweredLevel x := by
  apply BitVec.eq_of_toNat_eq
  simp only [decayLevel, loweredLevel, BitVec.toNat_ofNat]
  split
  · rw [BitVec.toNat_sub_of_le ‹_›]
    omega
  · show (_ - _) % 2 ^ 32 = 0
    omega

/-! The three kinds of turn (R193, R199, R198) -/

theorem contribution_of_not_processed {s : State} {v : Fin NV} (hen : s.params.en = true) (h : ¬Processed s v) :
    contribution s v = { voice := s.voices[v], left := 0, right := 0 } :=
  if_neg fun hv => h ⟨hen, hv⟩

theorem contribution_below_threshold {s : State} {v : Fin NV} (h : Processed s v)
    (hlow : (loweredLevel s.voices[v]).toNat < s.params.vthresh.toNat) :
    contribution s v =
      { voice := Voice.deactivate { s.voices[v] with vlevel := loweredLevel s.voices[v] }, left := 0, right := 0 } := by
  obtain ⟨-, hv⟩ := h
  rw [contribution, voiceTurn, if_pos hv, voiceFrame, decayLevel_eq_loweredLevel]
  exact if_pos hlow

/-- The signal path of voice `v` in a frame from `s`, if it sounds: the oscillator sum is scaled by the level already
lowered (R198, R218). -/
def State.voicePath (s : State) (v : Fin NV) : PathTurn :=
  let x := s.voices[v]
  pathTurn s.params (lfoValue s.lfoPhase)
    (scaleByLevel (oscSum s.params.pcap x.phase x.pamp) (loweredLevel x)) { x with vlevel := loweredLevel x }

theorem contribution_above_threshold {s : State} {v : Fin NV} (h : Processed s v)
    (hhigh : s.params.vthresh.toNat ≤ (loweredLevel s.voices[v]).toNat) :
    contribution s v =
      { voice := Voice.afterPath { s.voices[v] with vlevel := loweredLevel s.voices[v] } (s.voicePath v)
        left := panLeft (s.voicePath v).vca.out (s.voices[v]).vpan
        right := panRight (s.voicePath v).vca.out (s.voices[v]).vpan } := by
  obtain ⟨-, hv⟩ := h
  rw [contribution, voiceTurn, if_pos hv, voiceFrame, decayLevel_eq_loweredLevel]
  exact if_neg hhigh.not_gt

theorem frame_get_above_threshold {s : State} {v : Fin NV} (h : Processed s v)
    (hhigh : s.params.vthresh.toNat ≤ (loweredLevel s.voices[v]).toNat) :
    s.frame.voices[v] = Voice.afterPath { s.voices[v] with vlevel := loweredLevel s.voices[v] } (s.voicePath v) := by
  rw [State.frame_get, if_pos h.1, contribution_above_threshold h hhigh]

/-! The outputs of the filter and of the punch high-pass fit in HX1 and HY1 -/

theorem rndNat_tanh_le (m e o : ℕ) : rndNat (m * (e - o)) (e + o) ≤ m :=
  rndNat_le (Nat.mul_le_mul_left m (by omega))

theorem tanhRom_mem (k : ℕ) : 0 ≤ tanhRom k ∧ tanhRom k ≤ 8388608 := by
  rw [tanhRom]
  exact ⟨Int.natCast_nonneg _, by exact_mod_cast rndNat_tanh_le 8388608 _ _⟩

theorem tanhMag_mem (a : ℕ) : 0 ≤ tanhMag a ∧ tanhMag a ≤ 8388608 := by
  unfold tanhMag
  split
  · exact tanhRom_mem _
  · exact lerp_mem_of_mem (tanhRom_mem _) (tanhRom_mem _) (Nat.mod_lt _ (by norm_num))

theorem tanhClip_mem (x : Int) : -8388608 ≤ tanhClip x ∧ tanhClip x ≤ 8388608 := by
  have := tanhMag_mem x.natAbs
  unfold tanhClip
  split <;> omega

theorem ofSample_tanhClip_toInt (x : Int) : (ofSample (tanhClip x)).toInt = tanhClip x := by
  have := tanhClip_mem x
  exact ofSample_toInt (by omega) (by omega)

theorem pathTurn_hx1_toInt (p : Params) (lfo banked : Int) (x : Voice) :
    (pathTurn p lfo banked x).path.hx1.toInt = (pathTurn p lfo banked x).filter.out := ofSample_tanhClip_toInt _

theorem pathTurn_hy1_toInt (p : Params) (lfo banked : Int) (x : Voice) :
    (pathTurn p lfo banked x).path.hy1.toInt =
      punchHighPass p.punchHpc (pathTurn p lfo banked x).filter.out x.path.hx1 x.path.hy1 := ofSample_sat32_toInt _

/-- The output of a signal path, from what it leaves in HX1 and HY1 (R302, R304, R305). -/
theorem pathTurn_out (p : Params) (lfo banked : Int) (x : Voice) :
    (pathTurn p lfo banked x).vca.out =
      (let t := pathTurn p lfo banked x
       let g := vcaGain p.vcaMode t.adsr.e (modMatrix p lfo t.adsr.e x.vvel x.vpres).vca
       sat32 (vcaMain t.path.hx1.toInt g + punchMixed p t.path.hy1.toInt g)) := by
  simp only [pathTurn_hx1_toInt, pathTurn_hy1_toInt]
  rfl

/-! A sounding voice after the tick -/

theorem Voice.afterPath_active_iff {x : Voice} (h : x.active = true) (t : PathTurn) :
    (x.afterPath t).active = true ↔ (x.afterPath t).adsr.stage ≠ .idle := by
  simp [h]

theorem punchHighPass_eq_div (hpc : BitVec 16) (x4 : Int) (hx1 hy1 : Word) :
    punchHighPass hpc x4 hx1 hy1 = sat32 (hpc.toNat * (hy1.toInt + x4 - hx1.toInt) / 65536) :=
  congrArg sat32 (asr_eq_div _ _)

theorem scaleByLevel_eq_div (osc : Int) (level : Word) :
    scaleByLevel osc level = sat32 (osc * (level.toNat : Int) / 2 ^ 31) := congrArg sat32 (asr_eq_div _ _)

theorem Adsr.step_of_release_ended {p : Params} {a : Adsr} (hstage : a.stage = .release)
    (hcnt : p.envRelease.toNat ≤ a.cnt.toNat + 1) : a.step p = ⟨.idle, 0, 0, a.sl⟩ := by
  simp [Adsr.step, hstage, Adsr.stepRelease, hcnt]

end Sys2Proof.Machine

namespace Sys2Proof.Proofs

open Sys2Proof.Config Sys2Proof.Machine Sys2Proof.Claims

/-- Settles O35: a disabled tick keeps all voices, and an enabled one holds this one. -/
theorem unprocessedVoiceHolds : Obligations.UnprocessedVoiceHolds := by
  intro s t v ht hv
  obtain rfl := eq_frame_of_exec_tick ht
  rw [State.frame_get]
  by_cases hen : s.params.en = true
  · simp [contribution_of_not_processed hen hv]
  · simp [hen]

/-- Settles O36: the lowered voice is deactivated. -/
theorem thresholdDeactivatesVoice : Obligations.ThresholdDeactivatesVoice := by
  intro s t v ht hv hlow
  obtain rfl := eq_frame_of_exec_tick ht
  rw [State.frame_get, if_pos hv.1, contribution_below_threshold hv hlow]
  exact ⟨rfl, rfl, rfl⟩

/-- Settles O37: the voice is the one its signal path leaves, whose outputs fit in their words. -/
theorem processedVoiceAdvances : Obligations.ProcessedVoiceAdvances := by
  intro s t v ht hv hhigh
  obtain rfl := eq_frame_of_exec_tick ht
  intro p x y m c n banked x2
  have hy : y = Voice.afterPath { x with vlevel := loweredLevel x } (s.voicePath v) :=
    frame_get_above_threshold hv hhigh
  clear_value y
  subst hy
  have hbanked : scaleByLevel (oscSum p.pcap x.phase x.pamp) (loweredLevel x) = banked := scaleByLevel_eq_div _ _
  have hsec1 : (s.voicePath v).path.sec1 = biquad c x2 x.path.sec1 := by
    simp only [x2, ← hbanked]
    rfl
  have hx1 : (s.voicePath v).path.hx1.toInt =
      tanhClip (gmul (s.voicePath v).path.sec2.y1.toInt (gcompRom (resoIndex p m.reso))) := pathTurn_hx1_toInt ..
  have hy1 : (s.voicePath v).path.hy1.toInt =
      sat32 (p.punchHpc.toNat * (x.path.hy1.toInt + (s.voicePath v).path.hx1.toInt - x.path.hx1.toInt) / 65536) := by
    rw [← punchHighPass_eq_div, hx1]
    exact pathTurn_hy1_toInt ..
  exact ⟨rfl, fun k => by simp, satInc_toNat _, rfl, rfl, rfl, rfl, rfl, Voice.afterPath_active_iff hv.2.2 _, hsec1,
    rfl, hx1, hy1, rfl, rfl, rfl, rfl, rfl, rfl⟩

/-- Settles O38: the envelope step of the last Release frame answers Idle. -/
theorem releaseEndDeactivatesVoice : Obligations.ReleaseEndDeactivatesVoice := by
  intro s t v ht hv hhigh hstage hcnt
  obtain rfl := eq_frame_of_exec_tick ht
  have hadsr : (s.voicePath v).adsr = ⟨.idle, 0, 0, (s.voices[v]).adsr.sl⟩ := Adsr.step_of_release_ended hstage hcnt
  rw [frame_get_above_threshold hv hhigh]
  exact ⟨by simp [hadsr], hadsr, satInc_toNat _⟩

/-- Settles O59: the output comes from what the tick leaves in HX1 and HY1, and the pan splits it. -/
theorem soundingVoiceContributes : Obligations.SoundingVoiceContributes := by
  intro s t v ht hv hhigh
  obtain rfl := eq_frame_of_exec_tick ht
  rw [frame_get_above_threshold hv hhigh, contribution_above_threshold hv hhigh, State.voicePath, pathTurn_out]
  exact ⟨rfl, rfl⟩

/-- Settles O40: whether the tick is enabled and what the voice's turn is depends on the named parts alone. -/
theorem voicesDoNotInteract : Obligations.VoicesDoNotInteract := by
  intro s₁ s₂ t₁ t₂ v hparams hphase hvoice ht₁ ht₂
  obtain rfl := eq_frame_of_exec_tick ht₁
  obtain rfl := eq_frame_of_exec_tick ht₂
  rw [State.frame_get, State.frame_get, contribution, contribution, hparams, hphase, hvoice]

end Sys2Proof.Proofs
end

section
/-! SUPPORT. The outputs of a tick and its accounts: the exact mix of the contributions, the range of the final stage
and the telemetry as numbers. Settles O32 to O34 and O39. -/

namespace Sys2Proof.Machine

open Sys2Proof.Config Sys2Proof.Claims

theorem State.frame_of_enabled {s : State} (h : s.params.en = true) : s.frame = s.frameEnabled := if_pos h

theorem State.frame_of_disabled {s : State} (h : s.params.en = false) : s.frame = s.frameDisabled :=
  if_neg (by simp [h])

/-! The mix (R190) -/

theorem sum_map_turns (s : State) (f : Turn → Int) : (s.turns.toList.map f).sum = ∑ v, f (contribution s v) := by
  rw [State.turns, Vector.toList_ofFn, List.map_ofFn, List.sum_ofFn]
  rfl

theorem mixLeft_turns (s : State) : mixLeft s.turns = ∑ v, (contribution s v).left := sum_map_turns s Turn.left

theorem mixRight_turns (s : State) : mixRight s.turns = ∑ v, (contribution s v).right := sum_map_turns s Turn.right

/-! The final stage (R194) -/

/-- Inside the clip range the polynomial reaches the clip values only at its ends: with `c = 2^23`,
`2c³ - 3xc² + x³ = (x - c)²(x + 2c)` and `2c³ + 3xc² - x³ = (x + c)²(2c - x)`. -/
theorem cubic_mem (x : Int) : -8388608 ≤ cubic x ∧ cubic x ≤ 8388608 := by
  unfold cubic
  split
  · omega
  split
  · omega
  · have hup : 0 ≤ (x - 8388608) ^ 2 * (x + 16777216) := mul_nonneg (sq_nonneg _) (by omega)
    have hdown : 0 ≤ (x + 8388608) ^ 2 * (16777216 - x) := mul_nonneg (sq_nonneg _) (by omega)
    have hbounds : -1180591620717411303424 ≤ 3 * x * 70368744177664 - x * x * x ∧
        3 * x * 70368744177664 - x * x * x ≤ 1180591620717411303424 := by
      constructor <;> linarith
    rw [asr_eq_div]
    omega

theorem finalStage_mem (gain : BitVec 18) (m : Int) : -8388608 ≤ finalStage gain m ∧ finalStage gain m ≤ 8388607 := by
  have := cubic_mem (gmul (sat32 m) (ofField gain))
  unfold finalStage
  omega

theorem ofOut_finalStage_toInt (gain : BitVec 18) (m : Int) :
    (ofOut (finalStage gain m)).toInt = finalStage gain m := by
  have := finalStage_mem gain m
  simp only [ofOut, BitVec.toInt_ofInt]
  rw [Int.bmod_eq_of_le] <;> omega

theorem finalStage_zero (gain : BitVec 18) : finalStage gain 0 = 0 := by
  simp [finalStage, gmul, sat32, clamp, cubic, asr]

/-! Telemetry (R196) -/

theorem peak_toNat (w : BitVec 24) (o : OutSample) :
    (BitVec.ofNat 24 (max w.toNat o.toInt.natAbs)).toNat = max w.toNat o.toInt.natAbs := by
  have := OutSample.natAbs_toInt_le o
  simp only [BitVec.toNat_ofNat]
  omega

theorem energy_toNat (w : BitVec 64) (o : OutSample) :
    ((BitVec.ofNat 64 (min (w.toNat + o.toInt.natAbs * o.toInt.natAbs) 18446744073709551615)).toNat : Int) =
      min (w.toNat + o.toInt * o.toInt) (2 ^ 64 - 1) := by
  rw [BitVec.toNat_ofNat, Nat.mod_eq_of_lt (by omega), ← Int.natAbs_mul_self (a := o.toInt)]
  push_cast
  rfl

end Sys2Proof.Machine

namespace Sys2Proof.Proofs

open Sys2Proof.Config Sys2Proof.Machine Sys2Proof.Claims

/-- Settles O32: a disabled frame emits silence. -/
theorem disabledTickIsSilent : Obligations.DisabledTickIsSilent := fun _ hen =>
  congrArg Host.Outcome.next (State.frame_of_disabled hen)

/-- Settles O33: no sum of the telemetry leaves its register. -/
theorem enabledTickAccounts : Obligations.EnabledTickAccounts := by
  intro s hen
  refine ⟨s.frame, rfl, ?_⟩
  simp only [State.frame_of_enabled hen, State.frameEnabled_frames, State.frameEnabled_outL, State.frameEnabled_outR,
    State.frameEnabled_telem, State.frameEnabled_frameCount, State.frameEnabled_lfoPhase, State.frameEnabled_params,
    State.frameEnabled_cmdErr, State.frameEnabled_busErr, State.frameEnabled_stream, State.frameEnabled_reads,
    true_and, and_true]
  exact ⟨peak_toNat _ _, peak_toNat _ _, energy_toNat _ _, energy_toNat _ _, satInc_toNat _, rfl, rfl,
    BitVec.toNat_add _ _, BitVec.toNat_add _ _⟩

/-- Settles O34: the final stage fits in 24 bits, and the mix is the sum over the voices. -/
theorem enabledTickOutputsFinalStage : Obligations.EnabledTickOutputsFinalStage := by
  intro s t hen ht
  obtain rfl := eq_frame_of_exec_tick ht
  rw [State.frame_of_enabled hen, ← mixLeft_turns, ← mixRight_turns]
  exact ⟨ofOut_finalStage_toInt _ _, ofOut_finalStage_toInt _ _⟩

/-- Settles O39: no voice is processed, so each is held and the mix is 0. -/
theorem tickWithoutVoicesIsSilent : Obligations.TickWithoutVoicesIsSilent := by
  intro s hen hinactive
  have hheld (v : Fin NV) : contribution s v = { voice := s.voices[v], left := 0, right := 0 } :=
    contribution_of_not_processed hen fun ⟨_, _, hactive⟩ =>
      Bool.false_ne_true ((hinactive v).symm.trans hactive)
  have hleft : s.frameLeft = 0 := by simp [State.frameLeft, mixLeft_turns, hheld, finalStage_zero, ofOut]
  have hright : s.frameRight = 0 := by simp [State.frameRight, mixRight_turns, hheld, finalStage_zero, ofOut]
  have hvoices : s.frame.voices = s.voices := Vector.ext fun i hi => by
    have := s.frame_get ⟨i, hi⟩
    rwa [if_pos hen, hheld] at this
  have hframe := State.frame_of_enabled hen
  exact ⟨s.frame, rfl, by simp [hframe, hleft, hright], by simp [hframe, hleft], by simp [hframe, hright],
    by simp [hframe], hvoices⟩

end Sys2Proof.Proofs
end

section
/-! SUPPORT. The LFO and the modulation matrix as numbers. Settles O58. -/

namespace Sys2Proof.Machine

open Sys2Proof.Config

theorem lfoValue_eq_div (ph : Word) : lfoValue ph = wave ph / 128 := asr_eq_div _ _

theorem lfoValue_mem (ph : Word) : -65536 ≤ lfoValue ph ∧ lfoValue ph ≤ 65535 := by
  have := wave_mem ph
  rw [lfoValue_eq_div]
  omega

theorem modSum_eq (p : Params) (d : Fin 3) (src : ModSources) :
    modSum p d src =
      min (max ((depth p d 0 * src.lfo + depth p d 1 * src.env + depth p d 2 * src.vel + depth p d 3 * src.pres) /
        65536) (-65536)) 65536 := by
  rw [modSum, asr_eq_div]
  rfl

theorem modSources_of_move_zero {p : Params} (h : p.move = 0) (lfo lfo' : Int) (e : BitVec 17) (vvel vpres : Word) :
    modSources p lfo e vvel vpres = modSources p lfo' e vvel vpres := by
  simp [modSources, h, ofField, q16]

end Sys2Proof.Machine

namespace Sys2Proof.Proofs

open Sys2Proof.Config Sys2Proof.Machine

/-- Settles O58: a shifted sine read, and three shifted sums of products held to their range. -/
theorem lfoDrivesBoundedModulation : Obligations.LfoDrivesBoundedModulation := by
  refine ⟨fun ph => ⟨lfoValue_eq_div ph, lfoValue_mem ph⟩, by decide, ?_⟩
  intro p lfo e vvel vpres D src env m
  have hsrc : (modSources p lfo e vvel vpres).lfo = src := q16_eq_div _ _
  have hsum (d : Fin 3) := modSum_eq p d (modSources p lfo e vvel vpres)
  rw [hsrc] at hsum
  refine ⟨hsum 0, hsum 1, hsum 2, fun hmove lfo' => ?_⟩
  simp only [m, modMatrix, modSources_of_move_zero hmove lfo' lfo]

end Sys2Proof.Proofs
end

section
/-! SUPPORT. WAVE by the bit fields of its phase, and CUBIC as one monotone polynomial of the clamped sample. Settles
O42, O43 and O45. -/

namespace Sys2Proof.Machine

/-! The wavetable read (R212) -/

theorem phaseIndex_toNat (ph : Word) : (ph.extractLsb' 21 11).toNat = ph.toNat / 2 ^ 21 := by
  rw [BitVec.extractLsb'_toNat, Nat.shiftRight_eq_div_pow]
  omega

theorem phaseFraction_toNat (ph : Word) : (ph.extractLsb' 5 16).toNat = ph.toNat / 2 ^ 5 % 2 ^ 16 := by
  rw [BitVec.extractLsb'_toNat, Nat.shiftRight_eq_div_pow]

theorem wave_eq_lerp (ph : Word) :
    wave ph = lerp (sineRom (ph.toNat / 2 ^ 21)) (sineRom ((ph.toNat / 2 ^ 21 + 1) % 2048))
      (ph.toNat / 2 ^ 5 % 2 ^ 16) 16 := by
  rw [wave, phaseIndex_toNat, phaseFraction_toNat]

theorem lerp_eq_div (a b : ℤ) (f k : ℕ) : lerp a b f k = a + (b - a) * (f : ℤ) / 2 ^ k := by
  rw [lerp, asr_eq_div]

/-! The cubic soft clip (R219) -/

/-- The polynomial of CUBIC scaled by 2^47, so that it has integer coefficients. -/
def cubicPoly (x : ℤ) : ℤ := 3 * x * 70368744177664 - x * x * x

theorem cubic_of_ge {x : ℤ} (h : 8388608 ≤ x) : cubic x = 8388608 := if_pos h

theorem cubic_of_le {x : ℤ} (h : x ≤ -8388608) : cubic x = -8388608 := by
  rw [cubic, if_neg (by omega), if_pos h]

theorem cubic_of_inside {x : ℤ} (hlo : -8388608 < x) (hhi : x < 8388608) : cubic x = asr (cubicPoly x) 47 := by
  rw [cubic, if_neg (by omega), if_neg (by omega), cubicPoly]

/-- The polynomial passes through both clip values, so clipping the result is clamping the sample. -/
theorem cubic_eq_poly_clamp (x : ℤ) : cubic x = cubicPoly (clamp x (-8388608) 8388608) / 2 ^ 47 := by
  obtain hge | hlt := le_or_gt 8388608 x
  · have hclamp : clamp x (-8388608) 8388608 = 8388608 := by unfold clamp; omega
    rw [cubic_of_ge hge, hclamp]
    decide
  obtain hle | hgt := le_or_gt x (-8388608)
  · have hclamp : clamp x (-8388608) 8388608 = -8388608 := by unfold clamp; omega
    rw [cubic_of_le hle, hclamp]
    decide
  · rw [cubic_of_inside hgt hlt, clamp_eq_self hgt.le hlt.le, asr_eq_div]

theorem clamp_mono (lo hi : ℤ) : Monotone fun x => clamp x lo hi := fun _ _ h =>
  min_le_min_right hi (max_le_max_right lo h)

/-- With `c = 2^23`, a difference of two values is `(y - x) * (3c² - (x² + xy + y²))`, and each of the three products
is at most `c²`. -/
theorem cubicPoly_monotoneOn : MonotoneOn cubicPoly (Set.Icc (-8388608) 8388608) := by
  rintro x ⟨hxlo, hxhi⟩ y ⟨hylo, hyhi⟩ hxy
  have hfactor : cubicPoly y - cubicPoly x = (y - x) * (3 * 70368744177664 - (x * x + x * y + y * y)) := by
    unfold cubicPoly
    ring
  have hproducts : x * x + x * y + y * y ≤ 3 * 70368744177664 := by nlinarith
  have : 0 ≤ (y - x) * (3 * 70368744177664 - (x * x + x * y + y * y)) := mul_nonneg (by omega) (by omega)
  omega

theorem cubic_mono : Monotone cubic := by
  intro x y hxy
  rw [cubic_eq_poly_clamp, cubic_eq_poly_clamp]
  exact Int.ediv_le_ediv (by norm_num)
    (cubicPoly_monotoneOn (clamp_mem (by norm_num) x) (clamp_mem (by norm_num) y) (clamp_mono _ _ hxy))

/-- Between the clip points the shifted integer polynomial is the floor of `2^23 (1.5 u - 0.5 u³)`, `u = x / 2^23`. -/
theorem cubic_eq_floor {x : ℤ} (hlo : -8388608 < x) (hhi : x < 8388608) :
    cubic x = ⌊(2 : ℝ) ^ 23 * (1.5 * ((x : ℝ) / 2 ^ 23) - 0.5 * ((x : ℝ) / 2 ^ 23) ^ 3)⌋ := by
  rw [cubic_of_inside hlo hhi, asr_eq_floor, cubicPoly]
  congr 1
  push_cast
  ring

end Sys2Proof.Machine

namespace Sys2Proof.Proofs

open Sys2Proof.Machine

/-- Settles O42. The table of R223 is closed facts about its own numbers, so they are evaluated. -/
theorem waveAndCubicWorkedValues : Obligations.WaveAndCubicWorkedValues := by
  unfold Obligations.WaveAndCubicWorkedValues
  decide

/-- Settles O43: an interpolation lies between its two entries, whichever of them is the larger. -/
theorem waveInterpolatesEntries : Obligations.WaveInterpolatesEntries := by
  intro ph i f a b
  have hwave : wave ph = lerp a b f 16 := wave_eq_lerp ph
  have hf : f < 2 ^ 16 := Nat.mod_lt _ (by norm_num)
  obtain ⟨hmin, hmax⟩ : min a b ≤ lerp a b f 16 ∧ lerp a b f 16 ≤ max a b :=
    lerp_mem_of_mem ⟨min_le_left a b, le_max_left a b⟩ ⟨min_le_right a b, le_max_right a b⟩ hf
  obtain ⟨hlo, hhi⟩ := wave_mem ph
  exact ⟨hwave.trans (lerp_eq_div a b f 16), hwave ▸ hmin, hwave ▸ hmax, hlo, hhi⟩

/-- Settles O45: the clip values and the floor are the branches of CUBIC, and `cubic_eq_poly_clamp` joins them for the
monotonicity. -/
theorem cubicIsMonotoneClip : Obligations.CubicIsMonotoneClip := by
  refine ⟨fun _ _ h => cubic_mono h, cubic_mem, fun _ h => cubic_of_ge h, fun _ h => cubic_of_le h, fun x hx => ?_⟩
  obtain ⟨hlo, hhi⟩ := abs_lt.mp hx
  exact cubic_eq_floor hlo hhi

end Sys2Proof.Proofs
end

section
/-! SUPPORT. SHAPE and INTERP run monotonically from their start to their end, both ends included (R242 to R244), so
the values between lie in range. Settles O47 and O48. -/

namespace Sys2Proof.Machine

/-! SHAPE_ROM never falls: an entry is `65536 * f / (f - o) * (1 - o / e)`, with the exponential `e` growing -/

theorem rndNat_le_rndNat {n d n' d' : ℕ} (hd : 0 < d) (hd' : 0 < d') (h : n * d' ≤ n' * d) :
    rndNat n d ≤ rndNat n' d' := by
  unfold rndNat
  rw [Nat.le_div_iff_mul_le (by omega)]
  have hq : (2 * n + d) / (2 * d) * (2 * d) ≤ 2 * n + d := Nat.div_mul_le_self _ _
  refine Nat.le_of_mul_le_mul_right ?_ hd
  nlinarith [Nat.mul_le_mul_right d' hq]

theorem rndNat_shape_mono {e e' f o m : ℕ} (he : 0 < e) (hof : o < f) (h : e ≤ e') :
    rndNat (m * (e - o) * f) (e * (f - o)) ≤ rndNat (m * (e' - o) * f) (e' * (f - o)) := by
  have hpos {x : ℕ} (hx : 0 < x) : 0 < x * (f - o) := Nat.mul_pos hx (Nat.sub_pos_of_lt hof)
  apply rndNat_le_rndNat (hpos he) (hpos (he.trans_le h))
  have hcross : (e - o) * e' ≤ (e' - o) * e := by
    rw [Nat.sub_mul, Nat.sub_mul, Nat.mul_comm e' e]
    exact Nat.sub_le_sub_left (Nat.mul_le_mul_left o h) _
  calc m * (e - o) * f * (e' * (f - o)) = m * f * (f - o) * ((e - o) * e') := by ring
    _ ≤ m * f * (f - o) * ((e' - o) * e) := Nat.mul_le_mul_left _ hcross
    _ = m * (e' - o) * f * (e * (f - o)) := by ring

theorem fxExp_pos (x : ℕ) : 0 < fxExp x := (by decide : 0 < fxExp 0).trans_le (fxExp_mono x.zero_le)

theorem shapeRom_mono : Monotone shapeRom := by
  intro j k hjk
  have hexp : fxExp (5 * j * fxOne / 1024) ≤ fxExp (5 * k * fxOne / 1024) :=
    fxExp_mono (Nat.div_le_div_right (Nat.mul_le_mul_right _ (Nat.mul_le_mul_left 5 hjk)))
  unfold shapeRom
  exact Int.ofNat_le.mpr (rndNat_shape_mono (fxExp_pos _) (by decide) hexp)

/-! Interpolation moves one way as its weight grows, by the sign of `b - a` -/

theorem interpolation_mono {a b x y m : ℤ} (hm : 0 < m) (hab : a ≤ b) (hxy : x ≤ y) :
    a + (b - a) * x / m ≤ a + (b - a) * y / m := by
  have hprod : (b - a) * x ≤ (b - a) * y := mul_le_mul_of_nonneg_left hxy (Int.sub_nonneg_of_le hab)
  exact Int.add_le_add_left (Int.ediv_le_ediv hm hprod) a

theorem interpolation_antitone {a b x y m : ℤ} (hm : 0 < m) (hba : b ≤ a) (hxy : x ≤ y) :
    a + (b - a) * y / m ≤ a + (b - a) * x / m := by
  have hprod : (b - a) * y ≤ (b - a) * x := mul_le_mul_of_nonpos_left hxy (Int.sub_nonpos_of_le hba)
  exact Int.add_le_add_left (Int.ediv_le_ediv hm hprod) a

theorem lerp_mono {a b : ℤ} (h : a ≤ b) (k : ℕ) : Monotone fun f => lerp a b f k := by
  intro f g hfg
  simp only [lerp_eq_div]
  exact interpolation_mono (by positivity) h (Int.ofNat_le.mpr hfg)

/-! SHAPE (R243) -/

/-- SHAPE lies between the two entries that it interpolates. -/
theorem shape_mem_entries (p : ℕ) : shapeRom (p / 64) ≤ shape p ∧ shape p ≤ shapeRom (p / 64 + 1) :=
  lerp_mem_up (shapeRom_mono (Nat.le_succ _)) (Nat.mod_lt _ (by norm_num))

/-- Two positions between the same entries compare by their fractions, and two others by an entry between them. -/
theorem shape_mono : Monotone shape := by
  intro p q hpq
  obtain hsame | hnext : p / 64 = q / 64 ∨ p / 64 + 1 ≤ q / 64 := by omega
  · have hfraction : p % 64 ≤ q % 64 := by omega
    simpa only [shape, hsame] using lerp_mono (shapeRom_mono (Nat.le_succ (q / 64))) 6 hfraction
  · calc shape p ≤ shapeRom (p / 64 + 1) := (shape_mem_entries p).2
      _ ≤ shapeRom (q / 64) := shapeRom_mono hnext
      _ ≤ shape q := (shape_mem_entries q).1

theorem shape_zero : shape 0 = 0 := by decide

/-- The last position of a stage. -/
theorem shape_last : shape 65535 = 65535 := by decide

/-- The position that ends a stage, which no frame inside it has. -/
theorem shape_end : shape 65536 = 65536 := by decide

/-! The two curves, from 0 at the start of a stage to 65536 at its end -/

theorem curveAt_mono (c : Curve) : Monotone (curveAt c) := by
  cases c with
  | linear => exact Nat.mono_cast
  | exponential => exact shape_mono

theorem curveAt_zero (c : Curve) : curveAt c 0 = 0 := by
  cases c with
  | linear => rfl
  | exponential => exact shape_zero

theorem curveAt_end (c : Curve) : curveAt c 65536 = 65536 := by
  cases c with
  | linear => rfl
  | exponential => exact shape_end

/-! INTERP (R244), from the start level at frame 0 to the target at the length of the stage -/

theorem interp_eq_div (c : Curve) (S T : ℤ) (n len : ℕ) :
    interp c S T n len = S + (T - S) * curveAt c (n * 65536 / len) / 65536 := by
  rw [interp, asr_eq_div]
  rfl

theorem interp_zero (c : Curve) (S T : ℤ) (len : ℕ) : interp c S T 0 len = S := by
  simp [interp_eq_div, curveAt_zero]

theorem interp_end (c : Curve) (S T : ℤ) {len : ℕ} (h : 0 < len) : interp c S T len len = T := by
  rw [interp_eq_div, Nat.mul_div_cancel_left _ h, curveAt_end, Int.mul_ediv_cancel _ (by norm_num)]
  omega

theorem curveAt_position_mono (c : Curve) (len : ℕ) : Monotone fun n => curveAt c (n * 65536 / len) := fun _ _ h =>
  curveAt_mono c (Nat.div_le_div_right (Nat.mul_le_mul_right _ h))

theorem interp_mono (c : Curve) {S T : ℤ} (h : S ≤ T) (len : ℕ) : Monotone fun n => interp c S T n len := by
  intro n m hnm
  simp only [interp_eq_div]
  exact interpolation_mono (by norm_num) h (curveAt_position_mono c len hnm)

theorem interp_antitone (c : Curve) {S T : ℤ} (h : T ≤ S) (len : ℕ) : Antitone fun n => interp c S T n len := by
  intro n m hnm
  simp only [interp_eq_div]
  exact interpolation_antitone (by norm_num) h (curveAt_position_mono c len hnm)

/-- A level on the way lies between the levels at the two ends of its stage. -/
theorem interp_mem_ends (c : Curve) (S T : ℤ) {n len : ℕ} (hlen : 0 < len) (hn : n ≤ len) :
    min S T ≤ interp c S T n len ∧ interp c S T n len ≤ max S T := by
  obtain hup | hdown := le_total S T
  · have hstart := interp_mono c hup len n.zero_le
    have hend := interp_mono c hup len hn
    simp only [interp_zero, interp_end c S T hlen] at hstart hend
    omega
  · have hstart := interp_antitone c hdown len n.zero_le
    have hend := interp_antitone c hdown len hn
    simp only [interp_zero, interp_end c S T hlen] at hstart hend
    omega

end Sys2Proof.Machine

namespace Sys2Proof.Proofs

open Sys2Proof.Machine

/-- Settles O47: SHAPE never falls, so its first and last values bound it. -/
theorem shapeInterpolatesMonotonically : Obligations.ShapeInterpolatesMonotonically := by
  refine ⟨fun p hp => ⟨lerp_eq_div _ _ _ 6, ?_, ?_⟩, fun _ _ h _ => shape_mono h, by decide⟩
  · exact shape_zero.symm.trans_le (shape_mono p.zero_le)
  · have hlast : shape p ≤ shape 65535 := shape_mono (by omega)
    rw [shape_last] at hlast
    omega

/-- Settles O48: INTERP moves one way from its start at frame 0 to its target at the last frame. -/
theorem interpMovesTowardsTarget : Obligations.InterpMovesTowardsTarget := by
  refine ⟨fun c S T n len _ hn => ?_, by decide⟩
  obtain ⟨hmin, hmax⟩ := interp_mem_ends c S T (n.zero_le.trans_lt hn) hn.le
  exact ⟨interp_eq_div _ S T n len, interp_eq_div _ S T n len, hmin, hmax, fun m hnm _ =>
    ⟨fun hup => interp_mono c hup len hnm, fun hdown => interp_antitone c hdown.le len hnm⟩⟩

end Sys2Proof.Proofs
end

section
/-! SUPPORT. Delay, Attack, Decay and Release as one timed step, iterated once over its length: the whole course of the
envelope from a trigger and from a release is read off that. Settles O49 and O50. -/

namespace Sys2Proof.Machine

/-! The level inside a stage, as E holds it -/

/-- The level at frame `n` of a stage of `len` frames from `S` to `T` (R244). -/
def stageLevel (c : Curve) (S T : BitVec 17) (len : BitVec 24) (n : ℕ) : BitVec 17 :=
  ofLevel (interp c (ofField S) (ofField T) n len.toNat)

/-- E holds the interpolated level exactly, as it lies between two levels that E holds. -/
theorem stageLevel_toNat (c : Curve) (S T : BitVec 17) {len : BitVec 24} {n : ℕ} (hlen : 0 < len.toNat)
    (hn : n ≤ len.toNat) : ((stageLevel c S T len n).toNat : ℤ) = interp c S.toNat T.toNat n len.toNat := by
  have hends := interp_mem_ends c S.toNat T.toNat hlen hn
  have hS := S.isLt
  have hT := T.isLt
  exact ofLevel_toNat (x := interp c S.toNat T.toNat n len.toNat) (by omega) (by omega)

theorem stageLevel_zero (c : Curve) (S T : BitVec 17) (len : BitVec 24) : stageLevel c S T len 0 = S := by
  simp [stageLevel, interp_zero, ofLevel, ofField]

theorem stageLevel_end (c : Curve) (S T : BitVec 17) {len : BitVec 24} (hlen : 0 < len.toNat) :
    stageLevel c S T len len.toNat = T := by
  simp [stageLevel, interp_end c _ _ hlen, ofLevel, ofField]

theorem stageLevel_succ_ge (c : Curve) {S T : BitVec 17} (h : S.toNat ≤ T.toNat) {len : BitVec 24} {n : ℕ}
    (hn : n < len.toNat) : (stageLevel c S T len n).toNat ≤ (stageLevel c S T len (n + 1)).toNat := by
  have hlen : 0 < len.toNat := n.zero_le.trans_lt hn
  have hup := interp_mono c (Int.ofNat_le.mpr h) len.toNat n.le_succ
  simp only [← stageLevel_toNat c S T hlen hn.le, Nat.succ_eq_add_one, ← stageLevel_toNat c S T hlen hn] at hup
  omega

theorem stageLevel_succ_le (c : Curve) {S T : BitVec 17} (h : T.toNat ≤ S.toNat) {len : BitVec 24} {n : ℕ}
    (hn : n < len.toNat) : (stageLevel c S T len (n + 1)).toNat ≤ (stageLevel c S T len n).toNat := by
  have hlen : 0 < len.toNat := n.zero_le.trans_lt hn
  have hdown := interp_antitone c (Int.ofNat_le.mpr h) len.toNat n.le_succ
  simp only [← stageLevel_toNat c S T hlen hn.le, Nat.succ_eq_add_one, ← stageLevel_toNat c S T hlen hn] at hdown
  omega

/-! The timed stages are one step, for four lengths and levels -/

/-- A frame of a stage of `len` frames with the levels `level`, which leaves `last` when it ends. -/
def Adsr.timedStep (len : BitVec 24) (level : ℕ → BitVec 17) (last a : Adsr) : Adsr :=
  if len.toNat ≤ a.cnt.toNat + 1 then last else { a with cnt := a.cnt + 1, e := level (a.cnt.toNat + 1) }

namespace Adsr

variable {p : Params} {a : Adsr}

theorem step_idle (h : a.stage = .idle) : a.step p = a := by
  simp [step, h]

theorem step_delay (h : a.stage = .delay) :
    a.step p = timedStep p.envDelay (fun _ => a.e) ⟨.attack, a.e, 0, a.sl⟩ a := by
  simp only [step, h, stepDelay, timedStep]

theorem step_attack (h : a.stage = .attack) :
    a.step p = timedStep p.envAttack (stageLevel p.envMode a.sl p.envOvershoot p.envAttack)
      ⟨.decay, p.envOvershoot, 0, p.envOvershoot⟩ a := by
  simp only [step, h, stepAttack, timedStep, stageLevel]

theorem step_decay (h : a.stage = .decay) :
    a.step p = timedStep p.envDecay (stageLevel p.envMode a.sl p.envSustain p.envDecay)
      ⟨.sustain, p.envSustain, 0, a.sl⟩ a := by
  simp only [step, h, stepDecay, timedStep, stageLevel]

theorem step_sustain (h : a.stage = .sustain) : a.step p = ⟨.sustain, p.envSustain, a.cnt, a.sl⟩ := by
  simp only [step, h, stepSustain]

theorem step_release (h : a.stage = .release) :
    a.step p = timedStep p.envRelease (stageLevel p.envMode a.sl 0 p.envRelease) ⟨.idle, 0, 0, a.sl⟩ a := by
  simp only [step, h, stepRelease, timedStep]
  rfl

variable {len : BitVec 24} {level : ℕ → BitVec 17} {last : Adsr}

theorem timedStep_of_le (h : len.toNat ≤ a.cnt.toNat + 1) : timedStep len level last a = last := if_pos h

theorem timedStep_of_lt (h : a.cnt.toNat + 1 < len.toNat) :
    timedStep len level last a = ⟨a.stage, level (a.cnt.toNat + 1), a.cnt + 1, a.sl⟩ := if_neg h.not_ge

theorem cnt_succ_toNat (h : a.cnt.toNat + 1 < len.toNat) : (a.cnt + 1).toNat = a.cnt.toNat + 1 := by
  bv_omega

/-- Both branches of a timed step whose level is interpolated (R249, R250, R252). -/
theorem timedStep_stageLevel {st : Stage} (hst : a.stage = st) (c : Curve) (S T : BitVec 17) :
    let n := a.cnt.toNat + 1
    let b := timedStep len (stageLevel c S T len) last a
    (len.toNat ≤ n → b = last) ∧
      (n < len.toNat → b.stage = st ∧ b.cnt.toNat = n ∧ b.sl = a.sl ∧
        (b.e.toNat : ℤ) = interp c S.toNat T.toNat n len.toNat) := by
  refine ⟨timedStep_of_le, fun hlt => ?_⟩
  rw [timedStep_of_lt hlt]
  exact ⟨hst, cnt_succ_toNat hlt, rfl, stageLevel_toNat c S T (by omega) hlt.le⟩

/-! A timed stage from its first frame to its last -/

variable {st : Stage} {sl : BitVec 17}

/-- Each frame of the stage `st` is a timed step while the level is the one that the frame count gives. -/
def Timed (p : Params) (st : Stage) (sl : BitVec 17) (len : BitVec 24) (level : ℕ → BitVec 17) (last : Adsr) : Prop :=
  ∀ k : BitVec 24, step p ⟨st, level k.toNat, k, sl⟩ = timedStep len level last ⟨st, level k.toNat, k, sl⟩

theorem Timed.step_eq (h : Timed p st sl len level last) {n : ℕ} (hn : n < len.toNat) :
    step p ⟨st, level n, BitVec.ofNat 24 n, sl⟩ =
      if len.toNat ≤ n + 1 then last else ⟨st, level (n + 1), BitVec.ofNat 24 (n + 1), sl⟩ := by
  have hcnt : (BitVec.ofNat 24 n).toNat = n := Nat.mod_eq_of_lt (hn.trans len.isLt)
  have hsucc : BitVec.ofNat 24 (n + 1) = BitVec.ofNat 24 n + 1 := BitVec.ofNat_add n 1
  simpa only [timedStep, hcnt, hsucc] using h (BitVec.ofNat 24 n)

theorem Timed.iterate_of_lt (h : Timed p st sl len level last) {n : ℕ} (hn : n < len.toNat) :
    (step p)^[n] ⟨st, level 0, 0, sl⟩ = ⟨st, level n, BitVec.ofNat 24 n, sl⟩ := by
  induction n with
  | zero => rfl
  | succ n ih =>
    have hn' : n < len.toNat := n.lt_succ_self.trans hn
    rw [Function.iterate_succ_apply', ih hn', h.step_eq hn', if_neg hn.not_ge]

theorem Timed.iterate_len (h : Timed p st sl len level last) (hlen : 0 < len.toNat) :
    (step p)^[len.toNat] ⟨st, level 0, 0, sl⟩ = last := by
  obtain ⟨n, hn⟩ := Nat.exists_eq_succ_of_ne_zero hlen.ne'
  have hlast : n < len.toNat := hn ▸ n.lt_succ_self
  rw [hn, Function.iterate_succ_apply', h.iterate_of_lt hlast, h.step_eq hlast, if_pos hn.le]

/-- The level at every frame up to the end, when the stage ends on its last level. -/
theorem Timed.iterate_e (h : Timed p st sl len level last) (hlast : last.e = level len.toNat) {n : ℕ}
    (hlen : 0 < len.toNat) (hn : n ≤ len.toNat) : ((step p)^[n] ⟨st, level 0, 0, sl⟩).e = level n := by
  obtain hlt | rfl := hn.lt_or_eq
  · rw [h.iterate_of_lt hlt]
  · rw [h.iterate_len hlen, hlast]

theorem timed_delay (p : Params) : Timed p .delay 0 p.envDelay (fun _ => 0) ⟨.attack, 0, 0, 0⟩ := fun _ =>
  step_delay rfl

theorem timed_attack (p : Params) (sl : BitVec 17) :
    Timed p .attack sl p.envAttack (stageLevel p.envMode sl p.envOvershoot p.envAttack)
      ⟨.decay, p.envOvershoot, 0, p.envOvershoot⟩ := fun _ => step_attack rfl

theorem timed_decay (p : Params) (sl : BitVec 17) :
    Timed p .decay sl p.envDecay (stageLevel p.envMode sl p.envSustain p.envDecay)
      ⟨.sustain, p.envSustain, 0, sl⟩ := fun _ => step_decay rfl

theorem timed_release (p : Params) (sl : BitVec 17) :
    Timed p .release sl p.envRelease (stageLevel p.envMode sl 0 p.envRelease) ⟨.idle, 0, 0, sl⟩ := fun _ =>
  step_release rfl

/-! From a trigger at level 0 (R245, R248 to R251) -/

/-- The generator `n` frames after a trigger at level 0. -/
def afterTrigger (p : Params) (n : ℕ) : Adsr := (step p)^[n] (trigger p ⟨.idle, 0, 0, 0⟩)

theorem afterTrigger_add (p : Params) (m n : ℕ) : afterTrigger p (m + n) = (step p)^[n] (afterTrigger p m) := by
  rw [afterTrigger, Nat.add_comm, Function.iterate_add_apply, afterTrigger]

theorem trigger_of_delay (h : 0 < p.envDelay.toNat) : trigger p ⟨.idle, 0, 0, 0⟩ = ⟨.delay, 0, 0, 0⟩ := by
  simp [trigger, h]

theorem afterTrigger_delay (p : Params) : afterTrigger p p.envDelay.toNat = ⟨.attack, 0, 0, 0⟩ := by
  obtain h0 | hpos := p.envDelay.toNat.eq_zero_or_pos
  · simp [afterTrigger, trigger, h0]
  · rw [afterTrigger, trigger_of_delay hpos, (timed_delay p).iterate_len hpos]

theorem afterTrigger_e_in_delay {n : ℕ} (h : n ≤ p.envDelay.toNat) : (afterTrigger p n).e = 0 := by
  obtain hlt | rfl := h.lt_or_eq
  · rw [afterTrigger, trigger_of_delay (n.zero_le.trans_lt hlt), (timed_delay p).iterate_of_lt hlt]
  · rw [afterTrigger_delay]

theorem afterTrigger_attack (h : 1 ≤ p.envAttack.toNat) :
    afterTrigger p (p.envDelay.toNat + p.envAttack.toNat) = ⟨.decay, p.envOvershoot, 0, p.envOvershoot⟩ := by
  have hend := (timed_attack p 0).iterate_len h
  rwa [stageLevel_zero, ← afterTrigger_delay, ← afterTrigger_add] at hend

theorem afterTrigger_e_in_attack {n : ℕ} (h : 1 ≤ p.envAttack.toNat) (hn : n ≤ p.envAttack.toNat) :
    (afterTrigger p (p.envDelay.toNat + n)).e = stageLevel p.envMode 0 p.envOvershoot p.envAttack n := by
  have hlevel := (timed_attack p 0).iterate_e (stageLevel_end _ _ _ h).symm h hn
  rwa [stageLevel_zero, ← afterTrigger_delay, ← afterTrigger_add] at hlevel

theorem iterate_sustain (p : Params) (sl : BitVec 17) (n : ℕ) :
    (step p)^[n] ⟨.sustain, p.envSustain, 0, sl⟩ = ⟨.sustain, p.envSustain, 0, sl⟩ :=
  Function.iterate_fixed (step_sustain rfl) n

theorem afterTrigger_sustain (ha : 1 ≤ p.envAttack.toNat) (hd : 1 ≤ p.envDecay.toNat) (n : ℕ) :
    afterTrigger p (p.envDelay.toNat + p.envAttack.toNat + p.envDecay.toNat + n) =
      ⟨.sustain, p.envSustain, 0, p.envOvershoot⟩ := by
  have hend := (timed_decay p p.envOvershoot).iterate_len hd
  rw [stageLevel_zero, ← afterTrigger_attack ha, ← afterTrigger_add] at hend
  rw [afterTrigger_add, hend, iterate_sustain]

theorem afterTrigger_e_in_decay {n : ℕ} (ha : 1 ≤ p.envAttack.toNat) (hd : 1 ≤ p.envDecay.toNat)
    (hn : n ≤ p.envDecay.toNat) :
    (afterTrigger p (p.envDelay.toNat + p.envAttack.toNat + n)).e =
      stageLevel p.envMode p.envOvershoot p.envSustain p.envDecay n := by
  have hlevel := (timed_decay p p.envOvershoot).iterate_e (stageLevel_end _ _ _ hd).symm hd hn
  rwa [stageLevel_zero, ← afterTrigger_attack ha, ← afterTrigger_add] at hlevel

theorem afterTrigger_e_le_succ (h : 1 ≤ p.envAttack.toNat) {n : ℕ}
    (hn : n < p.envDelay.toNat + p.envAttack.toNat) :
    (afterTrigger p n).e.toNat ≤ (afterTrigger p (n + 1)).e.toNat := by
  obtain hdelay | hattack := lt_or_ge n p.envDelay.toNat
  · rw [afterTrigger_e_in_delay hdelay.le, afterTrigger_e_in_delay hdelay]
  · obtain ⟨i, rfl⟩ := Nat.exists_eq_add_of_le hattack
    rw [Nat.add_assoc, afterTrigger_e_in_attack h (by omega), afterTrigger_e_in_attack h (by omega)]
    exact stageLevel_succ_ge _ (Nat.zero_le _) (by omega)

theorem afterTrigger_e_succ_le (ha : 1 ≤ p.envAttack.toNat) (hd : 1 ≤ p.envDecay.toNat)
    (h : p.envSustain.toNat ≤ p.envOvershoot.toNat) {n : ℕ} (hn : p.envDelay.toNat + p.envAttack.toNat ≤ n) :
    (afterTrigger p (n + 1)).e.toNat ≤ (afterTrigger p n).e.toNat := by
  obtain ⟨i, rfl⟩ := Nat.exists_eq_add_of_le hn
  obtain hdecay | hsustain := lt_or_ge i p.envDecay.toNat
  · rw [Nat.add_assoc _ i, afterTrigger_e_in_decay ha hd hdecay, afterTrigger_e_in_decay ha hd hdecay.le]
    exact stageLevel_succ_le _ h hdecay
  · obtain ⟨j, rfl⟩ := Nat.exists_eq_add_of_le hsustain
    rw [← Nat.add_assoc, Nat.add_assoc _ j, afterTrigger_sustain ha hd, afterTrigger_sustain ha hd]

/-! From a release in Sustain (R246, R252) -/

theorem iterate_release (h : 1 ≤ p.envRelease.toNat) (S : BitVec 17) :
    (step p)^[p.envRelease.toNat] ⟨.release, S, 0, S⟩ = ⟨.idle, 0, 0, S⟩ := by
  simpa only [stageLevel_zero] using (timed_release p S).iterate_len h

theorem iterate_release_e_succ_le (h : 1 ≤ p.envRelease.toNat) (S : BitVec 17) (n : ℕ) :
    ((step p)^[n + 1] ⟨.release, S, 0, S⟩).e.toNat ≤ ((step p)^[n] ⟨.release, S, 0, S⟩).e.toNat := by
  obtain hrelease | hidle := lt_or_ge n p.envRelease.toNat
  · have hlevel (m : ℕ) (hm : m ≤ p.envRelease.toNat) :
        ((step p)^[m] ⟨.release, S, 0, S⟩).e = stageLevel p.envMode S 0 p.envRelease m := by
      simpa only [stageLevel_zero] using (timed_release p S).iterate_e (stageLevel_end _ _ _ h).symm h hm
    rw [hlevel n hrelease.le, hlevel (n + 1) hrelease]
    exact stageLevel_succ_le _ (Nat.zero_le _) hrelease
  · obtain ⟨i, rfl⟩ := Nat.exists_eq_add_of_le' hidle
    have hfixed : (step p)^[i + p.envRelease.toNat] ⟨.release, S, 0, S⟩ = ⟨.idle, 0, 0, S⟩ := by
      rw [Function.iterate_add_apply, iterate_release h]
      exact Function.iterate_fixed (step_idle rfl) i
    rw [Function.iterate_succ_apply', hfixed, step_idle rfl]

end Adsr

end Sys2Proof.Machine

namespace Sys2Proof.Proofs

open Sys2Proof.Machine

/-- Settles O49: each timed stage is one `timedStep`, and a trigger runs through them one after the other. -/
theorem envelopeFollowsItsStages : Obligations.EnvelopeFollowsItsStages := by
  refine ⟨fun p a => ?_, fun p n ha hd =>
    ⟨Adsr.afterTrigger_delay p, Adsr.afterTrigger_attack ha, Adsr.afterTrigger_sustain ha hd n⟩⟩
  refine ⟨Adsr.step_idle, fun hst => ?_, fun hst => ?_, fun hst => ?_, Adsr.step_sustain, fun hst => ?_⟩
  · rw [Adsr.step_delay hst]
    refine ⟨Adsr.timedStep_of_le, fun hlt => ?_⟩
    rw [Adsr.timedStep_of_lt hlt]
    exact ⟨hst, rfl, Adsr.cnt_succ_toNat hlt, rfl⟩
  · exact Adsr.step_attack hst ▸ Adsr.timedStep_stageLevel hst _ _ _
  · exact Adsr.step_decay hst ▸ Adsr.timedStep_stageLevel hst _ _ _
  · exact Adsr.step_release hst ▸ Adsr.timedStep_stageLevel hst _ _ 0

/-- Settles O50: each stage moves one way between its ends, and the stages join at them. -/
theorem envelopeShape : Obligations.EnvelopeShape := by
  intro p ha hd hr hpeak _ hsustain level release peak
  have hrelease (sl : BitVec 17) :
      Adsr.startRelease ⟨.sustain, p.envSustain, 0, sl⟩ = ⟨.release, p.envSustain, 0, p.envSustain⟩ := rfl
  simp only [level, release, hrelease]
  exact ⟨fun _ => Adsr.afterTrigger_e_le_succ ha, congrArg (·.e.toNat) (Adsr.afterTrigger_attack ha),
    fun _ => Adsr.afterTrigger_e_succ_le ha hd (by omega),
    fun n => congrArg (·.e.toNat) (Adsr.afterTrigger_sustain ha hd n),
    fun n _ => Adsr.iterate_release_e_succ_le hr p.envSustain n,
    fun _ => Adsr.iterate_release hr p.envSustain⟩

end Sys2Proof.Proofs
end

section
/-! SUPPORT. TANH as one monotone odd function, a section of the cascade by whether its output fits, and the two
coefficient indices as clamped formulas. Settles O46, O51, O52 and O53. -/

namespace Sys2Proof.Machine

open Sys2Proof.Config

/-! TANH_ROM never falls: an entry is `2^23 * (e - o) / (e + o)`, with the exponential `e` growing (R273) -/

theorem rndNat_tanh_mono {e e' o m : ℕ} (he : 0 < e) (h : e ≤ e') :
    rndNat (m * (e - o)) (e + o) ≤ rndNat (m * (e' - o)) (e' + o) := by
  apply rndNat_le_rndNat (by omega) (by omega)
  have hcross : (e - o) * (e' + o) ≤ (e' - o) * (e + o) := by
    have : e * o ≤ e' * o := Nat.mul_le_mul_right o h
    rw [Nat.sub_mul, Nat.sub_mul, mul_add, mul_add, mul_add, mul_add, mul_comm e' e, mul_comm o e, mul_comm o e']
    omega
  simpa only [mul_assoc] using Nat.mul_le_mul_left m hcross

theorem tanhRom_mono : Monotone tanhRom := by
  intro j k hjk
  have hexp : fxExp (2 * j * fxOne / 256) ≤ fxExp (2 * k * fxOne / 256) :=
    fxExp_mono (Nat.div_le_div_right (Nat.mul_le_mul_right _ (Nat.mul_le_mul_left 2 hjk)))
  unfold tanhRom
  exact Int.ofNat_le.mpr (rndNat_tanh_mono (fxExp_pos _) hexp)

theorem tanhRom_zero : tanhRom 0 = 0 := by decide

theorem tanhRom_last : tanhRom 1024 = 8382982 := by decide

/-! The magnitude of TANH (R274) -/

theorem tanhMag_of_lt {a : ℕ} (h : a < 2 ^ 25) :
    tanhMag a = lerp (tanhRom (a / 32768)) (tanhRom (a / 32768 + 1)) (a % 32768) 15 := if_neg (by omega)

theorem tanhMag_of_ge {a : ℕ} (h : 2 ^ 25 ≤ a) : tanhMag a = 8382982 :=
  (if_pos (by omega)).trans tanhRom_last

theorem tanhMag_zero : tanhMag 0 = 0 := by decide

/-- Below 2^25 the magnitude lies between the two entries that it interpolates. -/
theorem tanhMag_mem_entries {a : ℕ} (h : a < 2 ^ 25) :
    tanhRom (a / 32768) ≤ tanhMag a ∧ tanhMag a ≤ tanhRom (a / 32768 + 1) := by
  rw [tanhMag_of_lt h]
  exact lerp_mem_up (tanhRom_mono (Nat.le_succ _)) (Nat.mod_lt _ (by norm_num))

theorem tanhMag_le (a : ℕ) : tanhMag a ≤ 8382982 := by
  obtain hlt | hge := Nat.lt_or_ge a (2 ^ 25)
  · calc tanhMag a ≤ tanhRom (a / 32768 + 1) := (tanhMag_mem_entries hlt).2
      _ ≤ tanhRom 1024 := tanhRom_mono (by omega)
      _ = 8382982 := tanhRom_last
  · exact (tanhMag_of_ge hge).le

/-- Two magnitudes between the same entries compare by their fractions, two others by an entry between them, and none
is above the last entry. -/
theorem tanhMag_mono : Monotone tanhMag := by
  intro a b hab
  obtain hlt | hge := Nat.lt_or_ge b (2 ^ 25)
  · have ha : a < 2 ^ 25 := hab.trans_lt hlt
    obtain hsame | hnext : a / 32768 = b / 32768 ∨ a / 32768 + 1 ≤ b / 32768 := by omega
    · have hfraction : a % 32768 ≤ b % 32768 := by omega
      rw [tanhMag_of_lt ha, tanhMag_of_lt hlt, hsame]
      exact lerp_mono (tanhRom_mono (Nat.le_succ _)) 15 hfraction
    · calc tanhMag a ≤ tanhRom (a / 32768 + 1) := (tanhMag_mem_entries ha).2
        _ ≤ tanhRom (b / 32768) := tanhRom_mono hnext
        _ ≤ tanhMag b := (tanhMag_mem_entries hlt).1
  · exact (tanhMag_le a).trans (tanhMag_of_ge hge).ge

/-! TANH (R274) -/

theorem tanhClip_natCast (a : ℕ) : tanhClip a = tanhMag a := if_pos (Int.natCast_nonneg a)

theorem tanhClip_neg_natCast (a : ℕ) : tanhClip (-a) = -tanhMag a := by
  obtain rfl | ha := a.eq_zero_or_pos
  · decide
  · rw [tanhClip, if_neg (by omega), Int.natAbs_neg, Int.natAbs_natCast]

theorem tanhClip_neg (x : ℤ) : tanhClip (-x) = -tanhClip x := by
  obtain ⟨a, rfl | rfl⟩ := x.eq_nat_or_neg
  · rw [tanhClip_neg_natCast, tanhClip_natCast]
  · rw [tanhClip_neg_natCast, neg_neg, neg_neg, tanhClip_natCast]

theorem tanhClip_neg_of_eq {x y : ℤ} (h : tanhClip x = y) : tanhClip (-x) = -y := h ▸ tanhClip_neg x

theorem abs_tanhClip (x : ℤ) : |tanhClip x| = tanhMag x.natAbs := by
  have hnonneg : 0 ≤ tanhMag x.natAbs := (tanhMag_mem _).1
  unfold tanhClip
  split
  · exact abs_of_nonneg hnonneg
  · rw [abs_neg, abs_of_nonneg hnonneg]

theorem tanhClip_mono : Monotone tanhClip := by
  apply monotone_of_odd_of_monotoneOn_nonneg tanhClip_neg
  intro x hx y hy hxy
  lift x to ℕ using hx
  lift y to ℕ using hy
  rw [tanhClip_natCast, tanhClip_natCast]
  exact tanhMag_mono (Int.ofNat_le.mp hxy)

theorem tanhClip_of_lt {x : ℤ} (h0 : 0 ≤ x) (h : x < 2 ^ 25) :
    tanhClip x = tanhRom (x.toNat / 2 ^ 15) +
      (tanhRom (x.toNat / 2 ^ 15 + 1) - tanhRom (x.toNat / 2 ^ 15)) * (x % 2 ^ 15) / 2 ^ 15 := by
  lift x to ℕ using h0
  rw [tanhClip_natCast, tanhMag_of_lt (by omega), lerp_eq_div]
  rfl

theorem tanhClip_of_ge {x : ℤ} (h : 2 ^ 25 ≤ x) : tanhClip x = 8382982 := by
  lift x to ℕ using by omega
  rw [tanhClip_natCast, tanhMag_of_ge (by omega)]

/-! A section's output and residue (R277) -/

theorem biquadOut_of_fits {acc : ℤ} (hlo : -2 ^ 31 ≤ acc / 2 ^ 28) (hhi : acc / 2 ^ 28 < 2 ^ 31) :
    biquadOut acc = acc / 2 ^ 28 := by
  rw [biquadOut, asr_eq_div]
  exact sat32_eq_self (by omega) (by omega)

theorem biquadOut_of_low {acc : ℤ} (h : acc / 2 ^ 28 < -2 ^ 31) : biquadOut acc = -2 ^ 31 := by
  rw [biquadOut, asr_eq_div, sat32, clamp]
  omega

theorem biquadOut_of_high {acc : ℤ} (h : 2 ^ 31 ≤ acc / 2 ^ 28) : biquadOut acc = 2 ^ 31 - 1 := by
  rw [biquadOut, asr_eq_div, sat32, clamp]
  omega

/-- The residue is the 28 bits that the shift discards. -/
theorem biquadResidue_of_fits {acc : ℤ} (h : biquadOut acc = acc / 2 ^ 28) :
    ((biquadResidue acc).toNat : ℤ) = acc % 2 ^ 28 := by
  rw [biquadResidue, asr_eq_div, if_pos h, BitVec.toNat_ofInt]
  omega

theorem biquadResidue_of_saturated {acc : ℤ} (h : biquadOut acc ≠ acc / 2 ^ 28) : biquadResidue acc = 0 := by
  rw [biquadResidue, asr_eq_div, if_neg h]

theorem biquad_y1_toInt (c : Coefs) (x : ℤ) (sec : Section) :
    (biquad c x sec).y1.toInt = biquadOut (biquadAcc c x sec) := ofSample_sat32_toInt _

/-! The coefficient indices (R270, R271, R344, R345) -/

theorem cutoffIndex_eq (p : Params) (m : ℤ) :
    (cutoffIndex p m : ℤ) = min (max (p.cutoff.toNat + (m * 384) / 65536) p.cutMin.toNat) 1023 := by
  have hclamp : 0 ≤ clamp (ofField p.cutoff + asr (m * cutModSteps) 16) (ofField p.cutMin) cutTop :=
    le_min ((ofField_mem p.cutMin).1.trans (le_max_right _ _)) (by decide)
  rw [cutoffIndex, Int.toNat_of_nonneg hclamp, asr_eq_div]
  rfl

theorem resoIndex_eq (p : Params) (m : ℤ) :
    (resoIndex p m : ℤ) = (min (max (p.reso.toNat + m) 0) 65536 * 63 + 32768) / 65536 := by
  have hclamp : 0 ≤ clamp (ofField p.reso + m) 0 65536 := (clamp_mem (by decide) _).1
  rw [resoIndex, asr_eq_div, Int.toNat_of_nonneg (by omega)]
  rfl

/-! GCOMP_ROM (R279) -/

/-- `Q(r)` grows with `r`. -/
theorem fxQ_mono : Monotone fxQ := fun _ _ h =>
  Nat.div_le_div_right (fxExp_mono (Nat.div_le_div_right (Nat.mul_le_mul_left fxLn50 h)))

/-- Up to index 25, where `Q` is still at most 1, no gain is taken back. -/
theorem gcompRom_of_le {r : ℕ} (h : r ≤ 25) : gcompRom r = 65536 :=
  if_pos ((fxQ_mono h).trans (by decide : fxQ 25 ≤ fxOne))

end Sys2Proof.Machine

namespace Sys2Proof.Proofs

open Sys2Proof.Machine

/-- Settles O46: TANH is odd, and on the naturals it is the magnitude, which climbs from entry to entry up to the
last. -/
theorem tanhInterpolatesOddMonotone : Obligations.TanhInterpolatesOddMonotone :=
  ⟨fun _ => tanhClip_of_lt, fun _ => tanhClip_of_ge, tanhClip_neg, fun _ _ h => tanhClip_mono h,
    fun x => (abs_tanhClip x).trans_le (tanhMag_le _), tanhRom_zero, by decide, by decide, by decide, tanhRom_last⟩

/-- Settles O51: an output that fits is the floor quotient and its residue the remainder, and an output that does not
fit is not the quotient. -/
theorem biquadKeepsResidue : Obligations.BiquadKeepsResidue := by
  intro c x sec acc
  have hy1 : (biquad c x sec).y1.toInt = biquadOut acc := biquad_y1_toInt c x sec
  have hef : (biquad c x sec).ef = biquadResidue acc := rfl
  rw [hy1, hef]
  refine ⟨fun hlo hhi => ?_, fun hlow => ?_, fun hhigh => ?_, fun hlo hhi => ofSample_toInt hlo (by omega), rfl, rfl⟩
  · have hout := biquadOut_of_fits hlo hhi
    rw [biquadResidue_of_fits hout, hout]
    exact Int.ediv_mul_add_emod acc _
  · have hout := biquadOut_of_low hlow
    exact ⟨hout, biquadResidue_of_saturated (by omega)⟩
  · have hout := biquadOut_of_high hhigh
    exact ⟨hout, biquadResidue_of_saturated (by omega)⟩

/-- Settles O53: each index is its formula, and CUT_MIN has 10 bits. -/
theorem filterIndicesInRange : Obligations.FilterIndicesInRange := by
  intro p m
  have hcutoff := cutoffIndex_eq p m
  have hreso := resoIndex_eq p m
  have hcutMin : p.cutMin.toNat < 1024 := p.cutMin.isLt
  exact ⟨by omega, by omega, by omega, hcutoff, hreso⟩

/-- Settles O52. The entries and products are closed facts, so they are evaluated; the negative samples of TANH follow
by its symmetry, its saturated ones by its last entry, and the flat part of GCOMP_ROM by `Q` growing. -/
theorem filterAndVcaWorkedValues : Obligations.FilterAndVcaWorkedValues := by
  have hone : tanhClip 1 = 1 := by decide
  have hsmall : tanhClip 100000 = 99995 := by decide
  have hunit : tanhClip 8388608 = 6388715 := by decide
  exact ⟨by decide, by decide, by decide, by decide, by decide, by decide, by decide, by decide, by decide, by decide,
    hone, tanhClip_neg_of_eq hone, hsmall, tanhClip_neg_of_eq hsmall, by decide, by decide,
    hunit, tanhClip_neg_of_eq hunit, by decide, by decide,
    tanhClip_of_ge le_rfl, tanhClip_neg_of_eq (tanhClip_of_ge (by norm_num)),
    fun _ => gcompRom_of_le, by decide, by decide⟩

end Sys2Proof.Proofs
end

section
/-! SUPPORT. The VCA control as a number in its range and its square, the output of the punch path, and the punch table
one frame at a time. Settles O54 and O55. -/

namespace Sys2Proof.Machine

/-! The gain (R300, R301) -/

theorem vcaControl_mem (e : BitVec 17) (mv : Int) : 0 ≤ vcaControl e mv ∧ vcaControl e mv ≤ 81920 :=
  clamp_mem (by decide) _

theorem vcaGain_squared_eq_div (e : BitVec 17) (mv : Int) :
    vcaGain .squared e mv = vcaControl e mv * vcaControl e mv / 65536 := asr_eq_div _ _

/-- 102400 is the square of 81920 in Q16. -/
theorem q16Square_mem {c : Int} (h0 : 0 ≤ c) (h1 : c ≤ 81920) : 0 ≤ c * c / 65536 ∧ c * c / 65536 ≤ 102400 := by
  have hlo : 0 ≤ c * c := mul_self_nonneg c
  have hhi : c * c ≤ 81920 * 81920 := mul_self_le_mul_self h0 h1
  omega

/-! The mix (R302 to R305) -/

@[simp] theorem gmul_zero_right (x : Int) : gmul x 0 = 0 := by
  rw [gmul, mul_zero]
  decide

theorem punchMixed_of_mix_zero {p : Params} (h : p.punchMix = 0) (hp g : Int) : punchMixed p hp g = 0 := by
  have hmix : ofField p.punchMix = 0 := by rw [h]; rfl
  rw [punchMixed, hmix, gmul_zero_right]

theorem sat32_cubic (x : Int) : sat32 (cubic x) = cubic x := by
  obtain ⟨hlo, hhi⟩ := cubic_mem x
  exact sat32_eq_self (by omega) (by omega)

theorem vcaStep_out_of_mix_zero {p : Params} (h : p.punchMix = 0) (e : BitVec 17) (mv x4 : Int) (hx1 hy1 : Word) :
    (vcaStep p e mv x4 hx1 hy1).out = cubic (gmul x4 (vcaGain p.vcaMode e mv)) := by
  rw [vcaStep, punchMixed_of_mix_zero h, add_zero]
  exact sat32_cubic _

theorem vcaStep_hy1_toInt (p : Params) (e : BitVec 17) (mv x4 : Int) (hx1 hy1 : Word) :
    (vcaStep p e mv x4 hx1 hy1).hy1.toInt = punchHighPass p.punchHpc x4 hx1 hy1 := ofSample_sat32_toInt _

/-! The punch table (R306): the input stays at 4194304, so only HY1 moves once HX1 holds it -/

/-- One frame of the punch table, from HX1 and HY1. -/
def punchTableFrame (hx1 hy1 : Word) : VcaTurn :=
  vcaStep { Params.reset with punchMix := 65536 } 65536 0 4194304 hx1 hy1

theorem punchTableFrame_first : punchTableFrame 0 0 = ⟨4194304, 3679680, 13668376⟩ := by decide

theorem punchTableFrame_second : punchTableFrame 4194304 3679680 = ⟨4194304, 3228198, 13417634⟩ := by decide

theorem punchTableFrame_third : punchTableFrame 4194304 3228198 = ⟨4194304, 2832111, 13100155⟩ := by decide

theorem punchTableFrame_fourth : punchTableFrame 4194304 2832111 = ⟨4194304, 2484622, 12720869⟩ := by decide

end Sys2Proof.Machine

namespace Sys2Proof.Proofs

open Sys2Proof.Machine

/-- Settles O54: the control is a clamp, so its square is bounded; 0 and 65536 are their own squares in Q16. -/
theorem vcaGainFollowsControl : Obligations.VcaGainFollowsControl := by
  intro e mv c
  have hlinear : vcaGain .linear e mv = c := rfl
  have hsquared : vcaGain .squared e mv = c * c / 65536 := vcaGain_squared_eq_div e mv
  have hc : 0 ≤ c ∧ c ≤ 81920 := vcaControl_mem e mv
  rw [hlinear, hsquared]
  refine ⟨rfl, rfl, hc, q16Square_mem hc.1 hc.2, ?_⟩
  rintro (h | h) <;> rw [h] <;> decide

/-- Settles O55: the formulas are the parts of `vcaStep` with the shift as a quotient, and the table is four frames
in turn. -/
theorem vcaMixesPunchPath : Obligations.VcaMixesPunchPath := by
  refine ⟨fun p e mv x4 hx1 hy1 => ?_, ?_⟩
  · intro t g hp pp
    have hhp : punchHighPass p.punchHpc x4 hx1 hy1 = hp := punchHighPass_eq_div ..
    have hout : t.out = sat32 (cubic (gmul x4 g) + gmul (gmul pp g) p.punchMix.toNat) := by
      simp only [pp, ← hhp]
      rfl
    have hhy1 : t.hy1.toInt = hp := (vcaStep_hy1_toInt p e mv x4 hx1 hy1).trans hhp
    exact ⟨hout, fun h => vcaStep_out_of_mix_zero h e mv x4 hx1 hy1, hhy1, fun hlo hhi => ofSample_toInt hlo (by omega)⟩
  · intro frame
    have hframe (h : Word × Word × Int) :
        frame h = ((punchTableFrame h.1 h.2.1).hx1, (punchTableFrame h.1 h.2.1).hy1,
          (punchTableFrame h.1 h.2.1).out) := rfl
    simp only [List.map, Function.iterate_succ_apply', Function.iterate_zero_apply, hframe,
      punchTableFrame_first, punchTableFrame_second, punchTableFrame_third, punchTableFrame_fourth]
    decide

end Sys2Proof.Proofs
end

section
/-! SUPPORT. What each register reads after reset, and that a hardware reset leaves every register as at reset. Settles
O9. -/

namespace Sys2Proof.Machine

open Sys2Proof.Config Sys2Proof.Claims

theorem readGlobal_reset (g : GReg) : readGlobal State.reset g = resetWord (.glob g) := by
  cases g <;> rfl

theorem Params.reset_modDepth (k : Fin ND) : Params.reset.modDepth[k] = 0 := by
  simp [Params.reset]

/-- An inactive voice in stage Idle reads VSTAT 0 (R68). -/
theorem Voice.vstat_reset (v : ℕ) : (Voice.reset v).vstat = 0 :=
  (by decide : field (Stage.idle.code ++ BitVec.ofBool false) = 0)

/-- VNSTATE starts at the seed of its voice, VPAN in the middle, and every other register of a voice at zero (R390). -/
theorem readVoice_reset (v : Fin NV) (r : VReg) : readVoice (Voice.reset v.val) r = resetWord (.voice v r) := by
  cases r with
  | pinc p | pamp p | phase p => simp [readVoice, Voice.reset, resetWord, field]
  | vstat => exact Voice.vstat_reset v.val
  | vlevel | vdecay | vpan | vvel | vpres | vage | venv | vnstate => rfl

theorem readValue_reset (r : Reg) : readValue State.reset r = resetWord r := by
  cases r with
  | glob g => exact readGlobal_reset g
  | modDepth d k => exact Params.reset_modDepth (depthIndex d k)
  | voice v r => exact (congrArg (readVoice · r) (voicesReset_getElem v)).trans (readVoice_reset v r)

/-- What a hardware reset keeps, the traffic, is in no register (R393). -/
theorem readValue_hardwareReset (s : State) (r : Reg) : readValue s.hardwareReset r = readValue State.reset r := by
  cases r with
  | glob g => cases g <;> rfl
  | modDepth d k => rfl
  | voice v r => rfl

theorem State.hardwareReset_get (s : State) (v : Fin NV) : s.hardwareReset.voices[v] = Voice.reset v.val :=
  voicesReset_getElem v

end Sys2Proof.Machine

namespace Sys2Proof.Proofs

open Sys2Proof.Config Sys2Proof.Machine

/-- Settles O9: a hardware reset leaves the registers, the telemetry and the voices of the reset state. -/
theorem resetValues : Obligations.ResetValues := by
  refine ⟨readValue_reset, fun s => ⟨fun r => ?_, rfl, fun v => ?_⟩⟩
  · exact (readValue_hardwareReset s r).trans (readValue_reset r)
  · rw [s.hardwareReset_get v]
    exact ⟨rfl, rfl, rfl⟩

end Sys2Proof.Proofs
end
